-- ==== Sys2Proof/Word.lean ====
section
/-!
DEFINITION. The word types of the JW-6120: bytes of its ports, 24-bit upstream addresses (spec 00 section 5),
16-bit sequences and identifiers, 32-bit versions, codes, generations and event details.
-/

namespace Sys2Proof

/-- A byte of a serial port, a record, the profile image, a journal entry or the report window. -/
abbrev Byte := BitVec 8

/-- A set sequence, a component identifier or a record check. -/
abbrev Word16 := BitVec 16

/-- A version, a 32-bit code, a generation or an event detail. -/
abbrev Word32 := BitVec 32

/-- An address on the upstream port or on the flash port (24 bits). -/
abbrev Addr := BitVec 24

end Sys2Proof
end

