-- ==== Sys2Proof/Syntax.lean ====
section
/-!
DEFINITION. The commands of the JW-6120: one constructor of `Instr` for each row of spec/opcode_table.json. The table
gives no operand fields; an operand is what the row's rule says the event carries: a command code, an address,
a byte received on a port, the bytes of a read, a record handed by the Log Parser.
-/

namespace Sys2Proof

/-- A whole record as the Log Parser hands it to the Set Manager (R47), less its kind, which is the command.
The body length of R47 is the length of `body`. -/
structure Record where
  /-- The cell count of the header, 1 to 8. -/
  cells : Nat
  /-- The set sequence of the header. -/
  seq : Word16
  /-- The record check carried in the header. -/
  check : Word16
  /-- The body bytes, in order. -/
  body : List Byte
  /-- The upstream address of the record start. -/
  start : Addr
  deriving DecidableEq, Repr

/-- What the profile memory returned during one journal entry write (R118): the status byte of step 1, whether
step 4 saw the memory not busy within 20 ms, and the bytes of the read-back of step 5. -/
structure PortReply where
  /-- The status byte of step 1. -/
  status : Byte
  /-- Whether the completion poll of step 4 found the memory not busy in time. -/
  completed : Bool
  /-- The bytes read back in step 5. -/
  readBack : List Byte
  deriving DecidableEq, Repr

/-- The commands, in the table's order. -/
inductive Instr where
  /-- UCS_ASSERTED (R10). -/
  | ucsAsserted
  /-- READ (R4): its command byte alone, or its decision point with the address. -/
  | read (code : Byte) (addr : Option Addr)
  /-- READ_GRANULE_CROSSING (R32): the read has sent every data byte up to its granule's end; with `within := some n` it
  has sent its next `n` data bytes, which end before that (R31, log 9). -/
  | readGranuleCrossing (within : Option Nat := none)
  /-- REPORT_READ_LEAVES_WINDOW (R34): the read has sent every data byte up to the window's end; with `within := some n`
  it has sent its next `n` data bytes, which end before that (log 9). -/
  | reportReadLeavesWindow (within : Option Nat := none)
  /-- STATUS_READ (R5): the end of its command byte. -/
  | statusRead (code : Byte)
  /-- WRITE_ENABLE (R5): the end of its command byte. -/
  | writeEnable (code : Byte)
  /-- WRITE_DISABLE (R5): the end of its command byte. -/
  | writeDisable (code : Byte)
  /-- PASS (R5): the end of its command byte. -/
  | pass (code : Byte)
  /-- PROGRAM (R6): its command byte alone, or its decision point with the address. -/
  | program (code : Byte) (addr : Option Addr)
  /-- ERASE_4K (R7): its command byte alone, or its decision point with the address. -/
  | erase4k (code : Byte) (addr : Option Addr)
  /-- ERASE_64K (R7): its command byte alone, or its decision point with the address. -/
  | erase64k (code : Byte) (addr : Option Addr)
  /-- ERASE_ALL (R8): the end of its command byte. -/
  | eraseAll (code : Byte)
  /-- BLOCK (R9): the end of its command byte. -/
  | block (code : Byte)
  /-- PROGRAM_DATA_BYTE (R39): a whole data byte of a PROGRAM; in another open transaction, a whole byte that the processor
  sends after its command, address and dummies (log 35). -/
  | programDataByte (b : Byte)
  /-- UNKNOWN_KIND (R46): a whole record of a kind outside 1 to 9. -/
  | unknownKind (kind : Byte) (r : Record)
  /-- OPEN (R57): a live OPEN record. -/
  | openRecord (r : Record)
  /-- COMPONENT (R61). -/
  | componentRecord (r : Record)
  /-- CODES (R63). -/
  | codesRecord (r : Record)
  /-- CLOSE (R66). -/
  | closeRecord (r : Record)
  /-- COMMIT (R68). -/
  | commitRecord (r : Record)
  /-- CONFIRM (R70). -/
  | confirmRecord (r : Record)
  /-- ABANDON (R71). -/
  | abandonRecord (r : Record)
  /-- CLEAR (R72). -/
  | clearRecord (r : Record)
  /-- RESCAN (R73). -/
  | rescanRecord (r : Record)
  /-- UCS_RELEASED (R14). -/
  | ucsReleased
  /-- WRITE_DISABLE_CLEANUP (R13). -/
  | writeDisableCleanup
  /-- CLEANUP_COMPLETE (R13). -/
  | cleanupComplete
  /-- STATUS_POLL (R16). -/
  | statusPoll
  /-- STATUS_BYTE (R15): a whole status byte from the flash. -/
  | statusByte (b : Byte)
  /-- BUSY_LIMIT_EXPIRY (R17). -/
  | busyLimitExpiry
  /-- SCAN_START (R104). -/
  | scanStart
  /-- SCAN_RESUME (R107). -/
  | scanResume
  /-- SCAN_WORD (R105): a whole data byte received by a scan read. -/
  | scanWord (b : Byte)
  /-- SCAN_COMPLETE (R108): the chunk's last data byte, which folds the last word. -/
  | scanComplete (b : Byte)
  /-- JOURNAL_POLL_TIMEOUT (R118 step 4). -/
  | journalPollTimeout
  /-- COMMIT_ENTRY_LANDS (R123). -/
  | commitEntryLands
  /-- COMMIT_ENTRY_FAILS (R123). -/
  | commitEntryFails (reply : PortReply)
  /-- ATTEMPT_ENTRY_LANDS (R125). -/
  | attemptEntryLands
  /-- ATTEMPT_ENTRY_FAILS (R125). -/
  | attemptEntryFails (reply : PortReply)
  /-- CONFIRMATION_ENTRY_LANDS (R128). -/
  | confirmationEntryLands
  /-- CONFIRMATION_ENTRY_FAILS (R128). -/
  | confirmationEntryFails (reply : PortReply)
  /-- REVERT_ENTRY_LANDS (R130). -/
  | revertEntryLands
  /-- REVERT_ENTRY_FAILS (R131). -/
  | revertEntryFails (reply : PortReply)
  /-- REVERT_RETRY (R131). -/
  | revertRetry
  /-- MRST_RELEASE (R120). -/
  | mrstRelease
  /-- CONFIRM_TIMER_EXPIRY (R126). -/
  | confirmTimerExpiry
  /-- POWER_ON (R141). -/
  | powerOn
  /-- RSTIN_ASSERTED (R144). -/
  | rstinAsserted
  /-- RSTIN_RELEASED (R141). -/
  | rstinReleased
  /-- PRESENCE_CHECK (R135): a status byte read from the profile memory. -/
  | presenceCheck (b : Byte)
  /-- PRESENCE_TIMEOUT (R135). -/
  | presenceTimeout
  /-- PROFILE_LOAD (R136): the bytes the profile memory drove from address 0000h on. -/
  | profileLoad (image : List Byte)
  /-- JOURNAL_READ (R116): the bytes the profile memory drove from address 0800h on. -/
  | journalRead (image : List Byte)
  /-- REBUILD_READ_DONE (R52): the bytes of the record at the rebuild cursor; once the log has ended, the kind bytes of
  the cells of one sector from the cursor on (R54). -/
  | rebuildReadDone (bytes : List Byte)
  /-- REBUILD_COMPLETE (R54): the kind bytes of the last sector's cells from the rebuild cursor on. -/
  | rebuildComplete (kinds : List Byte)
  /-- RELEASE_STEP (R143). -/
  | releaseStep
  deriving DecidableEq, Repr

end Sys2Proof
end

