-- ==== Sys2Proof/Decode.lean ====
section
/-!
DEFINITION. The command a word spells by the table's bits. No row of spec/opcode_table.json gives bits (every row's
"fields" is empty), so no word spells a command (log 22).
-/

namespace Sys2Proof

/-- No row of the opcode table gives bits: no word spells a command (log 22). -/
def decodeTableWord (_nbits _w : Nat) : Option Instr := none

end Sys2Proof
end

