-- ==== Sys2Proof/Machine/State.lean ====
section
/-!
DEFINITION. The state of the JW-6120 as plain data, block by block as spec 00 section 2 lists the blocks, the outcomes'
reason types, and the state right after power-on.
Views the spec also names (VEN's state, the six chunk counts, the boot slot, ALERT, ST0, ST1) are functions of this state
and stand in Machine/Flags.lean (log 7).
-/

namespace Sys2Proof.Machine

/-- Reasons for a fault. There is none: the spec names no event at which the part stops (INVENTORY.md, Faults). -/
inductive Fault where
  deriving DecidableEq, Repr

/-- Reasons for a refusal. -/
inductive Refusal where
  /-- Raised by `exec` for a command that has no meaning yet; safe. No arm of this model raises it. -/
  | notModelled (mnemonic : String)
  deriving DecidableEq, Repr

/-! ### Names the spec gives -/

/-- The part as a whole (spec 00 section 2, R134). -/
inductive PartState where
  | starting | run | degraded
  deriving DecidableEq, Repr

/-- Slot 0 and slot 1 (R21, section 2.4). -/
inductive Slot where
  | slot0 | slot1
  deriving DecidableEq, Repr

/-- Command classes (spec 00 section 4). -/
inductive CmdClass where
  | read | statusRead | writeEnable | writeDisable | program | erase4k | erase64k | eraseAll | pass | block
  deriving DecidableEq, Repr

/-- The unlisted-command policy (R2). -/
inductive Policy where
  | block | pass
  deriving DecidableEq, Repr

/-- The five dispositions (spec 00 section 1.1). -/
inductive Disposition where
  | forward | translate | answer | fill | suppress
  deriving DecidableEq, Repr

/-- The kind of a busy period (R14). -/
inductive PeriodKind where
  | program | erase
  deriving DecidableEq, Repr

/-- Who drives the flash port's current transaction (R11, R12). A rebuild read begins and ends within one event (log 20)
and is shown by the view `flashPort`. -/
inductive Claimant where
  | upstream | cleanup | poll | scan | rebuild
  deriving DecidableEq, Repr

/-- The kinds of region, with the slot number that SLOT entries alone carry (section 2.1). -/
inductive RegionKind where
  | slot (n : Slot) | bootView | manifest | report | openArea | locked | hidden
  deriving DecidableEq, Repr

/-- The nine sources of ST0 and ST1 (R155). -/
inductive LineSource where
  | const0 | const1 | setReady | trial | bootSlot | scanning | degraded | alert | flashBusy
  deriving DecidableEq, Repr

/-- The parser's phase (R36). -/
inductive ParserPhase where
  | awaitingHeader | awaitingBody
  deriving DecidableEq, Repr

/-- The ten set states (section 4.1). -/
inductive SetState where
  | idle | receiving | closed | ready | committing | trial | installed | reverted | abandoned | rejected
  deriving DecidableEq, Repr

/-- The rebuild classes (R76). -/
inductive RebuildClass where
  | installed | trial | reverted | unrecognized
  deriving DecidableEq, Repr

/-- Rejection reasons (R55). -/
inductive RejectReason where
  | malformed | extent | rollback | codeRange | codeConflict | componentCode | closeCount | closeDigest
  | incomplete | mismatches
  deriving DecidableEq, Repr

/-- Refusal reasons of RECORD_REFUSED (R56, R46). -/
inductive RefuseReason where
  | wrongState | wrongSequence | busy | malformed | wrongSlot | staleSequence | notReady | noStore | noSet
  | unknownKind
  deriving DecidableEq, Repr

/-- The record kinds 1 to 9 (R158). -/
inductive RecordKind where
  | openSet | component | codes | close | commit | confirm | abandon | clear | rescan
  deriving DecidableEq, Repr

/-- The six chunk states (R79). -/
inductive ChunkState where
  | uncoded | erased | dirty | scanning | good | bad
  deriving DecidableEq, Repr

/-- The Verify Engine's states (R102). -/
inductive VenState where
  | idle | waiting | reading | paused
  deriving DecidableEq, Repr

/-- The boot states (R114). -/
inductive BootState where
  | stable | trial
  deriving DecidableEq, Repr

/-- The kinds of journal entry (R117). -/
inductive EntryKind where
  | commit | attempt | confirmation | revert
  deriving DecidableEq, Repr

/-- The steps at which an entry write fails (R118, R119); `atOnce` is step 0, the generation at FFFFFFFEh (R117). -/
inductive FailStep where
  | atOnce | statusRead | completionPoll | readBack
  deriving DecidableEq, Repr

/-- The reasons of a revert demand (R114). -/
inductive RevertReason where
  | attempts | abandoned | damaged
  deriving DecidableEq, Repr

/-- The restart causes (R114). -/
inductive RestartCause where
  | none | start | commit | trialTimeout | revert
  deriving DecidableEq, Repr

/-- Which release event of R120 has occurred and waits for its 10 ms. -/
inductive ReleaseEvent where
  | commitLanded | attemptLanded | revertLanded
  deriving DecidableEq, Repr

/-- The presence result (R134). -/
inductive Presence where
  | unknown | present | absent
  deriving DecidableEq, Repr

/-- The profile state (R134). -/
inductive ProfileState where
  | unknown | loaded | default | invalid
  deriving DecidableEq, Repr

/-- The invalid reasons (R134). -/
inductive InvalidReason where
  | format | length | check | entry | commands | regions
  deriving DecidableEq, Repr

/-- The step a start-up stands at (R142); `held` is RSTIN held asserted (R141), `finished` is RUN or DEGRADED. -/
inductive StartStep where
  | held | presence | profileLoad | journalRead | accounting | rebuild | release | finished
  deriving DecidableEq, Repr

/-- The event kinds (R150). -/
inductive EventKind where
  | suppressedWrite | blockedCommand | logOutOfOrder | logNotErased | logFull | logCut | setRejected | healthBad
  | journalFailed | trialTimeout | trialReverted | flashStuck | profileInvalid | noStore | filledRead | outOfRange
  | recordTorn | recordRefused | setReady | chunkBad | commitDone | confirmed | lineReset | profileDefault
  deriving DecidableEq, Repr

/-! ### Traffic Controller -/

/-- The run of a forwarded or translated read (R31). -/
structure Run where
  /-- The flash address of the next byte. -/
  flashAddr : Nat
  /-- Whether the mode is translate. -/
  translated : Bool
  /-- The boot slot captured at the decision point (R30). -/
  bootSlot : Slot
  deriving DecidableEq, Repr

/-- The transaction record (R1), with what the rules need to know of the open transaction. -/
structure Txn where
  /-- Whether a transaction is open. -/
  isOpen : Bool
  /-- The class, absent until the command byte is complete. -/
  cls : Option CmdClass
  /-- The start address, absent for classes without an address. -/
  start : Option Addr
  /-- The running address. -/
  running : Option Addr
  /-- The disposition, absent until the decision point (R3). -/
  disposition : Option Disposition
  /-- Opened while the part was in STARTING: ignored until its release (R19). -/
  inStarting : Bool
  /-- Whole data bytes of a PROGRAM received so far. -/
  received : Nat
  /-- Whether a whole data byte has been passed to the flash (R6). -/
  passed : Bool
  /-- The cut boundary of a permitted append, as an upstream address up to 2^24 (R40). -/
  cut : Option Nat
  /-- Whether the transaction has posted its LOG_CUT (R40). -/
  cutPosted : Bool
  /-- The run of a forwarded or translated read (R31). -/
  run : Option Run
  deriving DecidableEq, Repr

/-- The transaction on the flash port: while it is present FCS is asserted. -/
structure FlashTxn where
  /-- Who claimed the port. -/
  owner : Claimant
  /-- The command code sent. -/
  code : Byte
  /-- The flash address sent, for commands that carry one. -/
  addr : Option Addr
  /-- The number of dummy bytes sent after it. -/
  dummies : Nat
  /-- The bytes of the processor sent on FDO after these, in order: the data of a forwarded PROGRAM (R6), and what follows the
  command of a class forwarded unchanged (R5) or the address of a forwarded erase (R7). -/
  data : List Byte := []
  deriving DecidableEq, Repr

/-- The period during which FLASH_BUSY is set (R14). -/
structure BusyPeriod where
  /-- The start time, in ms. -/
  since : Nat
  /-- The period kind. -/
  kind : PeriodKind
  /-- The start address. -/
  addr : Addr
  deriving DecidableEq, Repr

/-- The Traffic Controller's state. -/
structure Trc where
  /-- The transaction record (R1). -/
  txn : Txn
  /-- The transaction in progress on the flash port, if any. -/
  flash : Option FlashTxn
  /-- FLASH_BUSY: set while a period is present (R14). -/
  busy : Option BusyPeriod
  /-- STUCK (R17). -/
  stuck : Bool
  /-- Cleanup pending (R13). -/
  cleanup : Bool
  deriving DecidableEq, Repr

/-! ### Region Map and settings in force -/

/-- An entry of the region table (section 2.1); base and limit are granule numbers. -/
structure Region where
  kind : RegionKind
  base : BitVec 12
  limit : BitVec 12
  deriving DecidableEq, Repr

/-- An entry of the command class table (R2). -/
structure CmdEntry where
  code : Byte
  cls : CmdClass
  addrFlag : Bool
  dummies : Nat
  deriving DecidableEq, Repr

/-- The settings in force (R138, R140). -/
structure Settings where
  /-- The region table, 12 positions. -/
  regions : Vector (Option Region) 12
  /-- The command class table, 24 positions. -/
  commands : Vector (Option CmdEntry) 24
  /-- The unlisted policy. -/
  policy : Policy
  /-- The flash size exponent F. -/
  flashExp : Nat
  /-- The busy-bit position of the status byte. -/
  busyBit : Nat
  /-- The write-enable-latch position of the status byte, which TRC does not use (R15). -/
  welBit : Nat
  /-- The program busy-limit exponent p. -/
  progExp : Nat
  /-- The erase busy-limit exponent e. -/
  eraseExp : Nat
  /-- The confirm exponent n. -/
  confirmExp : Nat
  /-- The mismatch threshold T. -/
  threshold : Nat
  /-- The ST0 source. -/
  st0 : LineSource
  /-- The ST1 source. -/
  st1 : LineSource
  deriving DecidableEq, Repr

/-! ### Log Parser -/

/-- The Log Parser's state (R36), with the cursor of the rebuild (R51). -/
structure Lgp where
  /-- The append point, 0 to 16384; during a rebuild 0 until the log has ended (log 34). -/
  appendPoint : Nat
  /-- The sector-clean flags. -/
  clean : Vector Bool 4
  /-- The bytes of the record in progress. -/
  buffer : List Byte
  /-- The parser phase. -/
  phase : ParserPhase
  /-- The rebuild's cursor (R51); once the log has ended, the offset of the next kind byte to read (R54, log 20). -/
  cursor : Nat
  /-- Whether the rebuild has found the log's end (R51). -/
  logEnded : Bool
  /-- Whether a status poll is owed before the next rebuild read (R12). -/
  pollOwed : Bool
  deriving DecidableEq, Repr

/-! ### Set Manager -/

/-- The two lanes of a code computation (R94). -/
structure Lanes where
  a : Nat
  b : Nat
  deriving DecidableEq, Repr

/-- The current set (R55). -/
structure CurrentSet where
  seq : Word16
  target : Slot
  /-- The chunk size exponent E. -/
  chunkExp : Nat
  /-- The trial attempts, 1 to 7. -/
  attempts : Nat
  /-- The component count, 1 to 8. -/
  compCount : Nat
  /-- The rebuild class, held during a rebuild only. -/
  rebuildClass : Option RebuildClass
  deriving DecidableEq, Repr

/-- A declared component (R55). -/
structure Component where
  ident : Word16
  version : Word32
  /-- The offset in the slot, in bytes. -/
  offset : Nat
  /-- The length, in bytes. -/
  length : Nat
  /-- The component code. -/
  code : Word32
  /-- The chunk count. -/
  chunkCount : Nat
  /-- The number of chunks that hold an expected code. -/
  coded : Nat
  /-- Whether the component code has been checked. -/
  checked : Bool
  deriving DecidableEq, Repr

/-- The Set Manager's state (R55). -/
structure Stm where
  setState : SetState
  set : Option CurrentSet
  comps : Vector (Option Component) 8
  /-- The accepted-record count. -/
  accepted : Nat
  /-- The running set digest's lanes. -/
  digest : Option Lanes
  reason : Option RejectReason
  mismatchTotal : Nat
  /-- The log high sequence. -/
  logHigh : Word16
  deriving DecidableEq, Repr

/-! ### Chunk Tracker and Verify Engine -/

/-- A chunk reference: component index and chunk index. -/
structure ChunkRef where
  comp : Nat
  chunk : Nat
  deriving DecidableEq, Repr

/-- A chunk record (R78). -/
structure Chunk where
  ref : ChunkRef
  /-- The expected code. -/
  expected : Option Word32
  state : ChunkState
  /-- The written flag. -/
  written : Bool
  /-- The mismatch count, 0 to 15. -/
  mismatches : Nat
  deriving DecidableEq, Repr

/-- The Chunk Tracker's state: the chunk records in set order, and the verify queue, head first (R78, R91). -/
structure Ckt where
  chunks : List Chunk
  queue : List ChunkRef
  deriving DecidableEq, Repr

/-- The Verify Engine's scan context (R102). -/
structure ScanContext where
  ref : ChunkRef
  /-- The word offset. -/
  offset : Nat
  lanes : Lanes
  /-- The held first byte of a word; absent while the byte position is first byte. -/
  held : Option Byte
  deriving DecidableEq, Repr

/-! ### Boot Supervisor -/

/-- A committed component pair (R115). Identifier FFFFh marks an empty pair. -/
structure Pair where
  ident : Word16
  version : Word32
  deriving DecidableEq, Repr

/-- The content of a journal entry (R115). -/
structure JournalEntry where
  generation : Word32
  boot : BootState
  committed : Slot
  trial : Slot
  /-- Attempts left, 0 to 6. -/
  attempts : Nat
  committedSeq : Word16
  trialSeq : Word16
  lastReverted : Word16
  pairs : Vector Pair 8
  deriving DecidableEq, Repr

/-- A journal write in flight: its kind, the entry being written, and the time it began (R117, R118). -/
structure JournalWrite where
  kind : EntryKind
  entry : JournalEntry
  since : Nat
  deriving DecidableEq, Repr

/-- The Boot Supervisor's state (R114). -/
structure Bsv where
  /-- The journal image; the boot state, the slots and attempts left are its fields. -/
  image : JournalEntry
  /-- The image's position, absent while the default journal applies. -/
  position : Option Nat
  /-- The next position. -/
  next : Nat
  /-- The journal write in flight. -/
  inFlight : Option JournalWrite
  /-- While a failed revert write in RUN waits for its retry: the time of the failure (R131). -/
  retryWait : Option Nat
  /-- The revert demand. -/
  demand : Option RevertReason
  /-- The confirm timer: the remaining ms while it runs. -/
  confirmTimer : Option Nat
  /-- MRST: the time of assertion while it is asserted. -/
  mrst : Option Nat
  /-- The release event that has occurred and waits for its 10 ms (R120). -/
  releaseDue : Option ReleaseEvent
  /-- Whether a confirm request has been taken since the landing that leads to the next release (R123). -/
  confirmTaken : Bool
  /-- The restart cause. -/
  restart : RestartCause
  deriving DecidableEq, Repr

/-! ### Profile Port Controller and the start-up -/

/-- The Profile Port Controller's state (R134). -/
structure Ppc where
  presence : Presence
  profile : ProfileState
  invalid : Option InvalidReason
  /-- The time of the first status byte while the presence check goes on polling (R135). -/
  pollSince : Option Nat
  deriving DecidableEq, Repr

/-- The part state and the course of the start-up (R134, R142). -/
structure Sup where
  part : PartState
  step : StartStep
  /-- Whether R131 marked the start-up to end in DEGRADED. -/
  markDegraded : Bool
  /-- Whether RSTIN is asserted. -/
  rstin : Bool
  deriving DecidableEq, Repr

/-! ### Report Unit -/

/-- An entry of the event list (R145). Its class follows from its kind (R150). -/
structure Event where
  kind : EventKind
  /-- The repeat count, 1 to 255. -/
  count : Nat
  /-- The set sequence. -/
  seq : Word16
  detail : Word32
  deriving DecidableEq, Repr

/-- The Report Unit's state (R145); the ST0 and ST1 sources stand among the settings. -/
structure Rpu where
  /-- The event list, oldest first. -/
  events : List Event
  overflow : Bool
  /-- The snapshot of the report read now open. -/
  snapshot : Option (List Byte)
  deriving DecidableEq, Repr

/-! ### The whole machine -/

/-- The state of the JW-6120 and the queue of commands that wait. -/
structure State where
  /-- The commands that wait, first in, first out (log 22). -/
  pending : List Instr
  /-- The ms the part's oscillator has counted (log 2). -/
  now : Nat
  /-- How many free values have been drawn (log 10). -/
  freeDraws : Nat
  trc : Trc
  settings : Settings
  lgp : Lgp
  stm : Stm
  ckt : Ckt
  /-- The Verify Engine's scan context, absent in IDLE and WAITING (R102). -/
  scan : Option ScanContext
  bsv : Bsv
  ppc : Ppc
  sup : Sup
  rpu : Rpu
  deriving DecidableEq, Repr

/-! ### Reset values -/

/-- The closed transaction record (R1). -/
def Txn.closed : Txn where
  isOpen := false
  cls := none
  start := none
  running := none
  disposition := none
  inStarting := false
  received := 0
  passed := false
  cut := none
  cutPosted := false
  run := none

/-- TRC at the start of a start-up (R1, R13, R14). -/
def Trc.start : Trc where
  txn := Txn.closed
  flash := none
  busy := none
  stuck := false
  cleanup := false

/-- The settings between the start of a start-up and its profile load: tables without content (R21; DESIGN CHOICE for
the command table, log 4), SET_READY and TRIAL for the lines (R145), the defaults of R138 elsewhere (log 4). -/
def Settings.start : Settings where
  regions := Vector.replicate 12 none
  commands := Vector.replicate 24 none
  policy := .block
  flashExp := 23
  busyBit := 0
  welBit := 1
  progExp := 3
  eraseExp := 10
  confirmExp := 5
  threshold := 0
  st0 := .setReady
  st1 := .trial

/-- LGP at the start of a start-up (R36). -/
def Lgp.start : Lgp where
  appendPoint := 0
  clean := Vector.replicate 4 false
  buffer := []
  phase := .awaitingHeader
  cursor := 0
  logEnded := false
  pollOwed := false

/-- STM at the start of a start-up (R55). -/
def Stm.start : Stm where
  setState := .idle
  set := none
  comps := Vector.replicate 8 none
  accepted := 0
  digest := none
  reason := none
  mismatchTotal := 0
  logHigh := 0

/-- CKT at the start of a start-up (R78). -/
def Ckt.start : Ckt where
  chunks := []
  queue := []

/-- An empty committed pair (R160). -/
def Pair.empty : Pair where
  ident := 0xFFFF
  version := 0xFFFFFFFF

/-- The default journal (R116). -/
def JournalEntry.default : JournalEntry where
  generation := 0
  boot := .stable
  committed := .slot0
  trial := .slot0
  attempts := 0
  committedSeq := 0
  trialSeq := 0
  lastReverted := 0
  pairs := Vector.replicate 8 Pair.empty

/-- BSV at the start of a start-up (R114), with MRST asserted since `t` and the given restart cause. -/
def Bsv.start (t : Nat) (cause : RestartCause) : Bsv where
  image := JournalEntry.default
  position := none
  next := 0
  inFlight := none
  retryWait := none
  demand := none
  confirmTimer := none
  mrst := some t
  releaseDue := none
  confirmTaken := false
  restart := cause

/-- PPC at the start of a start-up (R134). -/
def Ppc.start : Ppc where
  presence := .unknown
  profile := .unknown
  invalid := none
  pollSince := none

/-- RPU after power-on (R145). -/
def Rpu.start : Rpu where
  events := []
  overflow := false
  snapshot := none

/-- The machine right after power-on with RSTIN released (log 3): the start-up sequence has begun at its presence check
and the restart cause has gone from NONE to START (R121, R141). -/
def State.reset : State where
  pending := []
  now := 0
  freeDraws := 0
  trc := Trc.start
  settings := Settings.start
  lgp := Lgp.start
  stm := Stm.start
  ckt := Ckt.start
  scan := none
  bsv := Bsv.start 0 .start
  ppc := Ppc.start
  sup := { part := .starting, step := .presence, markDegraded := false, rstin := false }
  rpu := Rpu.start

end Sys2Proof.Machine
end

