-- ==== Sys2Proof/Machine/Codes.lean ====
section
/-!
DEFINITION. Byte order and the two-lane sum (spec 06 sections 6.1 and 6.2): little-endian fields, the words of a byte
sequence, the lane step, and the six uses.
-/

namespace Sys2Proof.Machine

/-! ### Little-endian fields (spec 00 section 5) -/

/-- Byte `i` of a list, 0 beyond its end. -/
def byteAt (bs : List Byte) (i : Nat) : Byte := bs.getD i 0

/-- The 16-bit little-endian field at byte `i`. -/
def field16 (bs : List Byte) (i : Nat) : Word16 := byteAt bs (i + 1) ++ byteAt bs i

/-- The 32-bit little-endian field at byte `i`. -/
def field32 (bs : List Byte) (i : Nat) : Word32 := field16 bs (i + 2) ++ field16 bs i

/-- A number as one byte. -/
def byteOf (n : Nat) : Byte := BitVec.ofNat 8 n

/-- The two bytes of a 16-bit value, low byte first. -/
def bytes16 (w : Word16) : List Byte := [w.extractLsb' 0 8, w.extractLsb' 8 8]

/-- The four bytes of a 32-bit value, lowest first. -/
def bytes32 (w : Word32) : List Byte :=
  [w.extractLsb' 0 8, w.extractLsb' 8 8, w.extractLsb' 16 8, w.extractLsb' 24 8]

/-- The first `n` bytes of a list, completed with FFh (the value of what no field occupies, R161). -/
def fit (n : Nat) (bs : List Byte) : List Byte := (bs ++ List.replicate (n - bs.length) 0xFF#8).take n

/-! ### The lane step (R94) -/

/-- The modulus of the two-lane sum. -/
def laneModulus : Nat := 65521

/-- R94: A becomes (A + w) mod 65521, then B becomes (B + A) mod 65521 with the new A. -/
def laneStep (l : Lanes) (w : Nat) : Lanes :=
  { a := (l.a + w) % laneModulus, b := (l.b + (l.a + w) % laneModulus) % laneModulus }

/-- The lanes after a list of words, taken in order. -/
def laneFold (l : Lanes) (ws : List Nat) : Lanes := ws.foldl laneStep l

/-- The word of a low byte and a high byte (R95). -/
def wordOf (low high : Byte) : Nat := low.toNat + 256 * high.toNat

/-- R95: bytes in pairs, low byte first; an odd last byte takes FFh as its high byte. -/
def wordsOf : List Byte → List Nat
  | [] => []
  | [x] => [wordOf x 0xFF#8]
  | x :: y :: rest => wordOf x y :: wordsOf rest

/-- The 32-bit code of the lanes, B × 65536 + A. -/
def code32 (l : Lanes) : Word32 := BitVec.ofNat 32 (l.b * 65536 + l.a)

/-- The 16-bit check of the lanes, (A + B) mod 65536. -/
def check16 (l : Lanes) : Word16 := BitVec.ofNat 16 (l.a + l.b)

/-- Whether both 16-bit halves of a code are below 65521 (R101). -/
def halvesBelow (c : Word32) : Bool :=
  (c.extractLsb' 0 16).toNat < laneModulus && (c.extractLsb' 16 16).toNat < laneModulus

/-! ### The six uses (section 6.2) -/

/-- R96: the seeds of chunk `chunk` of the component with identifier `ident`. -/
def chunkSeed (ident : Word16) (chunk : Nat) : Lanes :=
  { a := 1 + chunk, b := ident.toNat % laneModulus }

/-- R97: the component code over expected chunk codes in chunk order, low half then high half of each. -/
def componentCode (ident : Word16) (codes : List Word32) : Word32 :=
  code32 (laneFold { a := 1, b := ident.toNat % laneModulus }
    (codes.flatMap fun c => [(c.extractLsb' 0 16).toNat, (c.extractLsb' 16 16).toNat]))

/-- R98: the record check over header bytes 0 to 5 and the body. -/
def recordCheck (kind : Byte) (covered : List Byte) : Word16 :=
  check16 (laneFold { a := 1, b := kind.toNat } (wordsOf covered))

/-- R99: the seeds of a set digest. -/
def digestSeed (seq : Word16) : Lanes := { a := 1, b := seq.toNat % laneModulus }

/-- R100: the profile check and the journal entry check. -/
def storeCheck (covered : List Byte) : Word16 := check16 (laneFold { a := 1, b := 0 } (wordsOf covered))

end Sys2Proof.Machine
end

