-- ==== Sys2Proof/Machine/Formats.lean ====
section
/-!
DEFINITION. The numeric codes of chapter 10 (R158 to R162): classes, kinds, reasons and states as bytes, the packing of
event details, the tables' item encodings, and the journal entry's 64 bytes both ways.
-/

namespace Sys2Proof.Machine

/-! ### Codes of names -/

/-- Command classes (R159). -/
def cmdClassCode : CmdClass → Nat
  | .read => 1 | .statusRead => 2 | .writeEnable => 3 | .writeDisable => 4 | .program => 5
  | .erase4k => 6 | .erase64k => 7 | .eraseAll => 8 | .pass => 9 | .block => 10

/-- The class a code names (R159); 0 and codes above 10 name none. -/
def cmdClassOf (n : Nat) : Option CmdClass :=
  match n with
  | 1 => some .read | 2 => some .statusRead | 3 => some .writeEnable | 4 => some .writeDisable | 5 => some .program
  | 6 => some .erase4k | 7 => some .erase64k | 8 => some .eraseAll | 9 => some .pass | 10 => some .block
  | _ => none

/-- Region kinds (R159). -/
def regionKindCode : RegionKind → Nat
  | .slot _ => 1 | .bootView => 2 | .manifest => 3 | .report => 4 | .openArea => 5 | .locked => 6 | .hidden => 7

/-- Slot numbers. -/
def slotCode : Slot → Nat
  | .slot0 => 0 | .slot1 => 1

/-- The slot a number names. -/
def slotOf (n : Nat) : Option Slot :=
  match n with
  | 0 => some .slot0 | 1 => some .slot1 | _ => none

/-- The other slot. -/
def otherSlot : Slot → Slot
  | .slot0 => .slot1 | .slot1 => .slot0

/-- Status-line sources (R159). -/
def lineSourceCode : LineSource → Nat
  | .const0 => 0 | .const1 => 1 | .setReady => 2 | .trial => 3 | .bootSlot => 4 | .scanning => 5
  | .degraded => 6 | .alert => 7 | .flashBusy => 8

/-- The source a value selects; a value above 8 selects constant 0 (R138, R159). -/
def lineSourceOf (n : Nat) : LineSource :=
  match n with
  | 1 => .const1 | 2 => .setReady | 3 => .trial | 4 => .bootSlot | 5 => .scanning | 6 => .degraded
  | 7 => .alert | 8 => .flashBusy | _ => .const0

/-- Part states (R161). -/
def partCode : PartState → Nat
  | .starting => 0 | .run => 1 | .degraded => 2

/-- Profile states (R161). -/
def profileCode : ProfileState → Nat
  | .unknown => 0 | .loaded => 1 | .default => 2 | .invalid => 3

/-- Set states (R161). -/
def setStateCode : SetState → Nat
  | .idle => 0 | .receiving => 1 | .closed => 2 | .ready => 3 | .committing => 4 | .trial => 5
  | .installed => 6 | .reverted => 7 | .abandoned => 8 | .rejected => 9

/-- Boot states (R160). -/
def bootCode : BootState → Nat
  | .stable => 0 | .trial => 1

/-- VEN states (R161). -/
def venCode : VenState → Nat
  | .idle => 0 | .waiting => 1 | .reading => 2 | .paused => 3

/-- Rejection reasons (R162). -/
def rejectCode : RejectReason → Nat
  | .malformed => 1 | .extent => 2 | .rollback => 3 | .codeRange => 4 | .codeConflict => 5
  | .componentCode => 6 | .closeCount => 7 | .closeDigest => 8 | .incomplete => 9 | .mismatches => 10

/-- Refusal reasons (R162). -/
def refuseCode : RefuseReason → Nat
  | .wrongState => 1 | .wrongSequence => 2 | .busy => 3 | .malformed => 4 | .wrongSlot => 5
  | .staleSequence => 6 | .notReady => 7 | .noStore => 8 | .noSet => 9 | .unknownKind => 10

/-- Record kinds (R158). -/
def recordKindCode : RecordKind → Nat
  | .openSet => 1 | .component => 2 | .codes => 3 | .close => 4 | .commit => 5 | .confirm => 6
  | .abandon => 7 | .clear => 8 | .rescan => 9

/-- The kind a kind byte names (R158); any other byte names none (R46). -/
def recordKindOf (b : Byte) : Option RecordKind :=
  match b.toNat with
  | 1 => some .openSet | 2 => some .component | 3 => some .codes | 4 => some .close | 5 => some .commit
  | 6 => some .confirm | 7 => some .abandon | 8 => some .clear | 9 => some .rescan | _ => none

/-- Chunk states (R162). -/
def chunkStateCode : ChunkState → Nat
  | .uncoded => 0 | .erased => 1 | .dirty => 2 | .scanning => 3 | .good => 4 | .bad => 5

/-- Entry kinds (R161, R162). -/
def entryKindCode : EntryKind → Nat
  | .commit => 1 | .attempt => 2 | .confirmation => 3 | .revert => 4

/-- Failing steps (R119). -/
def failStepCode : FailStep → Nat
  | .atOnce => 0 | .statusRead => 1 | .completionPoll => 4 | .readBack => 5

/-- Revert reasons (R161). -/
def revertCode : RevertReason → Nat
  | .attempts => 1 | .abandoned => 2 | .damaged => 3

/-- Restart causes (R161). -/
def restartCode : RestartCause → Nat
  | .none => 0 | .start => 1 | .commit => 2 | .trialTimeout => 3 | .revert => 4

/-- Presence results (R161). -/
def presenceCode : Presence → Nat
  | .unknown => 0 | .present => 1 | .absent => 2

/-- Invalid reasons (R161). -/
def invalidCode : InvalidReason → Nat
  | .format => 1 | .length => 2 | .check => 3 | .entry => 4 | .commands => 5 | .regions => 6

/-- Policies (R161). -/
def policyCode : Policy → Nat
  | .block => 0 | .pass => 1

/-- Event kinds (R162). -/
def eventCode : EventKind → Nat
  | .suppressedWrite => 0x01 | .blockedCommand => 0x02 | .logOutOfOrder => 0x03 | .logNotErased => 0x04
  | .logFull => 0x05 | .logCut => 0x06 | .setRejected => 0x07 | .healthBad => 0x08 | .journalFailed => 0x09
  | .trialTimeout => 0x0A | .trialReverted => 0x0B | .flashStuck => 0x0C | .profileInvalid => 0x0D
  | .noStore => 0x0E | .filledRead => 0x0F | .outOfRange => 0x10 | .recordTorn => 0x11 | .recordRefused => 0x12
  | .setReady => 0x13 | .chunkBad => 0x14 | .commitDone => 0x15 | .confirmed => 0x16 | .lineReset => 0x17
  | .profileDefault => 0x18

/-! ### Event details (R162) -/

/-- A detail that holds an address in bits 0 to 23. -/
def detailAddr (a : Addr) : Word32 := a.setWidth 32

/-- SUPPRESSED_WRITE: the address in bits 0 to 23 and the class in bits 24 to 31. -/
def detailWrite (c : CmdClass) (a : Addr) : Word32 := byteOf (cmdClassCode c) ++ a

/-- A detail of two bytes, byte 0 first. -/
def detailBytes (b0 b1 : Byte) : Word32 := (0#16) ++ b1 ++ b0

/-- HEALTH_BAD and CHUNK_BAD: component index in byte 0, chunk index in bytes 2 and 3. -/
def detailChunk (r : ChunkRef) : Word32 := BitVec.ofNat 16 r.chunk ++ (0#8) ++ byteOf r.comp

/-- SET_READY: the total chunk count in bytes 0 and 1. -/
def detailCount (n : Nat) : Word32 := (0#16) ++ BitVec.ofNat 16 n

/-! ### The journal entry (R115, R160) -/

/-- A pair as it is written: an empty pair carries version FFFFFFFFh (R160). -/
def writtenPair (p : Pair) : Pair := if p.ident = 0xFFFF#16 then Pair.empty else p

/-- The six bytes of a pair. -/
def pairBytes (p : Pair) : List Byte := bytes16 p.ident ++ bytes32 p.version

/-- Bytes 0 to 13 of an entry. -/
def entryHead (e : JournalEntry) : List Byte :=
  bytes32 e.generation ++
  [byteOf (bootCode e.boot), byteOf (slotCode e.committed), byteOf (slotCode e.trial), byteOf e.attempts] ++
  bytes16 e.committedSeq ++ bytes16 e.trialSeq ++ bytes16 e.lastReverted

/-- Bytes 14 to 61 of an entry. -/
def entryPairs (e : JournalEntry) : List Byte := e.pairs.toList.flatMap pairBytes

/-- The 64 bytes of an entry as it is written (R160). -/
def entryBytes (e : JournalEntry) : List Byte :=
  entryHead e ++ entryPairs e ++ bytes16 (storeCheck (entryHead e ++ entryPairs e))

/-- Pair `i` of an entry's bytes. -/
def pairAt (bs : List Byte) (i : Nat) : Pair :=
  { ident := field16 bs (14 + 6 * i), version := field32 bs (16 + 6 * i) }

/-- The entry in 64 bytes, where they hold a valid one (R115); blank entries and entries that fail a condition give
none. -/
def entryOf (bs : List Byte) : Option JournalEntry :=
  let boot : Option BootState :=
    match (byteAt bs 4).toNat with
    | 0 => some .stable | 1 => some .trial | _ => none
  match boot, slotOf (byteAt bs 5).toNat, slotOf (byteAt bs 6).toNat with
  | some boot, some committed, some trial =>
    if bs.all (· == 0xFF#8) then none
    else if field16 bs 62 ≠ storeCheck (bs.take 62) then none
    else if field32 bs 0 = 0xFFFFFFFF#32 then none
    else if 6 < (byteAt bs 7).toNat then none
    else if boot = .trial ∧ trial = committed then none
    else some
      { generation := field32 bs 0, boot := boot, committed := committed, trial := trial,
        attempts := (byteAt bs 7).toNat, committedSeq := field16 bs 8, trialSeq := field16 bs 10,
        lastReverted := field16 bs 12, pairs := Vector.ofFn fun i => pairAt bs i.val }
  | _, _, _ => none

/-! ### Items of the profile image (R159) -/

/-- The item encoding of a region position; 0 while it is empty (R161). The slot number of an entry that is no SLOT entry
shows as 0 (log 30). -/
def regionItem : Option Region → Word32
  | none => 0
  | some r =>
    let slot : Nat := match r.kind with
      | .slot n => slotCode n
      | _ => 0
    (BitVec.ofNat 4 slot ++ BitVec.ofNat 4 (regionKindCode r.kind) ++ r.limit ++ r.base : BitVec 32)

/-- A region item's value: an outer none fails test ENTRY, an inner none is an empty position (R159). -/
def regionOfItem (v : Word32) : Option (Option Region) :=
  let base := v.extractLsb' 0 12
  let limit := v.extractLsb' 12 12
  let mk (k : RegionKind) : Option (Option Region) := some (some { kind := k, base := base, limit := limit })
  match (v.extractLsb' 24 4).toNat with
  | 0 => some none
  | 1 => (slotOf (v.extractLsb' 28 4).toNat).bind fun n => mk (.slot n)
  | 2 => mk .bootView
  | 3 => mk .manifest
  | 4 => mk .report
  | 5 => mk .openArea
  | 6 => mk .locked
  | 7 => mk .hidden
  | _ => none

/-- A command item's value, in the same form (R159). -/
def commandOfItem (v : Word32) : Option (Option CmdEntry) :=
  if (v.extractLsb' 8 8).toNat = 0 then some none
  else if 2 < (v.extractLsb' 24 8).toNat then none
  else (cmdClassOf (v.extractLsb' 8 8).toNat).map fun c =>
    some { code := v.extractLsb' 0 8, cls := c, addrFlag := v.getLsbD 16, dummies := (v.extractLsb' 24 8).toNat }

/-- The two bytes of a command position in the report window; 0000h while it is empty (R162). -/
def commandBytes : Option CmdEntry → List Byte
  | none => [0, 0]
  | some e => [e.code, byteOf (cmdClassCode e.cls + (if e.addrFlag then 16 else 0) + 32 * (e.dummies % 4))]

end Sys2Proof.Machine
end

