-- ==== Sys2Proof/Machine/Ops.lean ====
section
/-!
DEFINITION. The shared operations on the state: replacing one block, the passing of time, the posting of events, the
flash port.
-/

namespace Sys2Proof.Machine

/-! ### Replacing one block -/

/-- The state with its `pending` replaced. -/
def State.setPending (s : State) (x : List Instr) : State := { s with pending := x }

/-- The state with its `now` replaced. -/
def State.setNow (s : State) (x : Nat) : State := { s with now := x }

/-- The state with its `freeDraws` replaced. -/
def State.setFreeDraws (s : State) (x : Nat) : State := { s with freeDraws := x }

/-- The state with its `trc` replaced. -/
def State.setTrc (s : State) (x : Trc) : State := { s with trc := x }

/-- The state with its `settings` replaced. -/
def State.setSettings (s : State) (x : Settings) : State := { s with settings := x }

/-- The state with its `lgp` replaced. -/
def State.setLgp (s : State) (x : Lgp) : State := { s with lgp := x }

/-- The state with its `stm` replaced. -/
def State.setStm (s : State) (x : Stm) : State := { s with stm := x }

/-- The state with its `ckt` replaced. -/
def State.setCkt (s : State) (x : Ckt) : State := { s with ckt := x }

/-- The state with its `scan` replaced. -/
def State.setScan (s : State) (x : Option ScanContext) : State := { s with scan := x }

/-- The state with its `bsv` replaced. -/
def State.setBsv (s : State) (x : Bsv) : State := { s with bsv := x }

/-- The state with its `ppc` replaced. -/
def State.setPpc (s : State) (x : Ppc) : State := { s with ppc := x }

/-- The state with its `sup` replaced. -/
def State.setSup (s : State) (x : Sup) : State := { s with sup := x }

/-- The state with its `rpu` replaced. -/
def State.setRpu (s : State) (x : Rpu) : State := { s with rpu := x }

/-! ### Time (log 2) -/

/-- `n` ms pass: the clock goes on and a running confirm timer runs down (R126). -/
def elapse (n : Nat) (s : State) : State :=
  (s.setNow (s.now + n)).setBsv { s.bsv with confirmTimer := s.bsv.confirmTimer.map (· - n) }

/-- The clock stands at `t` at least: a time limit that ends at `t` has been reached. -/
def elapseTo (t : Nat) (s : State) : State := elapse (t - s.now) s

/-! ### Posting events (R146 to R148) -/

/-- Whether a kind's class is ATTENTION (R150). -/
def attention : EventKind → Bool
  | .suppressedWrite | .blockedCommand | .logOutOfOrder | .logNotErased | .logFull | .logCut | .setRejected
  | .healthBad | .journalFailed | .trialTimeout | .trialReverted | .flashStuck | .profileInvalid | .noStore => true
  | .filledRead | .outOfRange | .recordTorn | .recordRefused | .setReady | .chunkBad | .commitDone | .confirmed
  | .lineReset | .profileDefault => false

/-- The capacity of the event list. -/
def eventCapacity : Nat := 32

/-- The event list's part in a posting: coalescing with the newest entry (R147), then the capacity rule (R148). -/
def Rpu.post (r : Rpu) (kind : EventKind) (seq : Word16) (detail : Word32) : Rpu :=
  let fresh : Rpu :=
    if r.events.length < eventCapacity then
      { r with events := r.events ++ [{ kind := kind, count := 1, seq := seq, detail := detail }] }
    else { r with overflow := true }
  match r.events.getLast? with
  | some newest =>
    if newest.kind = kind ∧ newest.detail = detail then
      { r with events := r.events.dropLast ++ [{ newest with count := min 255 (newest.count + 1), seq := seq }] }
    else fresh
  | none => fresh

/-- The set sequence of an event whose posting rule names none (R146). -/
def defaultSeq (s : State) : Word16 := (s.stm.set.map CurrentSet.seq).getD 0

/-- A posting with the set sequence its rule names. -/
def postWith (kind : EventKind) (seq : Word16) (detail : Word32) (s : State) : State :=
  s.setRpu (s.rpu.post kind seq detail)

/-- A posting whose rule names no set sequence. -/
def post (kind : EventKind) (detail : Word32) (s : State) : State := postWith kind (defaultSeq s) detail s

/-! ### The flash port (R10, R11) -/

/-- FCS is released: no transaction stands on the flash port. -/
def releaseFlash (s : State) : State := s.setTrc { s.trc with flash := none }

/-- FCS is released if the Verify Engine's read holds the port (R109). -/
def releaseScanRead (s : State) : State :=
  if s.trc.flash.map FlashTxn.owner = some .scan then releaseFlash s else s

/-- An upstream transaction holds the port: open, and not one that R19 ignores. -/
def upstreamHolds (s : State) : Bool := s.trc.txn.isOpen && !s.trc.txn.inStarting

/-- R10: the port is free when no upstream transaction is open and no internal transaction is in progress. -/
def portFree (s : State) : Bool := !upstreamHolds s && s.trc.flash.isNone

/-- The first entry of a class in the command class table (section 1.3). -/
def firstEntry (st : Settings) (c : CmdClass) : Option CmdEntry :=
  st.commands.toList.findSome? fun e => e.bind fun e => if e.cls = c then some e else none

/-- The part is in RUN or in DEGRADED: upstream traffic is decoded (R19, R20). -/
def awake (s : State) : Bool := s.sup.part != .starting

end Sys2Proof.Machine
end

