-- ==== Sys2Proof/Machine/Regions.lean ====
section
/-!
DEFINITION. The Region Map (spec 02): granule lookup, slot geometry, the boot slot, and the constraints on a region table.
-/

namespace Sys2Proof.Machine

/-- The granule of an address (section 2.1). -/
def granuleOf (a : Addr) : Nat := a.toNat / 4096

/-- The upstream address at which a granule begins. -/
def granuleAddr (g : Nat) : Addr := BitVec.ofNat 24 (g * 4096)

/-- The number of granules the flash spans, 2^(F − 12). -/
def flashGranules (st : Settings) : Nat := 2 ^ (st.flashExp - 12)

/-- The flash size in bytes, 2^F. -/
def flashSize (st : Settings) : Nat := 2 ^ st.flashExp

/-- Whether an entry's own range holds a granule. -/
def Region.covers (r : Region) (g : Nat) : Bool := r.base.toNat ≤ g && g ≤ r.limit.toNat

/-- R23: the non-empty entry of lowest position that covers the granule. -/
def winner (st : Settings) (g : Nat) : Option Region :=
  st.regions.toList.findSome? fun r => r.bind fun r => if r.covers g then some r else none

/-- The answer to a lookup: the effective kind and whether the granule is out of range (R23, R24). -/
structure Lookup where
  kind : RegionKind
  outOfRange : Bool
  deriving DecidableEq, Repr

/-- R23 and R24: an uncovered granule behaves as LOCKED below the flash size and as HIDDEN out of range above it; an
OPEN or LOCKED winner at or above the flash size behaves as HIDDEN out of range. -/
def lookup (st : Settings) (g : Nat) : Lookup :=
  match winner st g with
  | none =>
    if g < flashGranules st then { kind := .locked, outOfRange := false } else { kind := .hidden, outOfRange := true }
  | some r =>
    if (r.kind = .openArea ∨ r.kind = .locked) ∧ flashGranules st ≤ g then { kind := .hidden, outOfRange := true }
    else { kind := r.kind, outOfRange := false }

/-- The first entry of a kind, taken from its own base and limit (R23). -/
def entryOfKind (st : Settings) (k : RegionKind) : Option Region :=
  st.regions.toList.findSome? fun r => r.bind fun r => if r.kind = k then some r else none

/-- The address at which the entry of a kind begins; 0 where the table has none. -/
def baseOf (st : Settings) (k : RegionKind) : Nat := ((entryOfKind st k).map fun r => r.base.toNat * 4096).getD 0

/-- The base address of a slot (section 2.4). -/
def slotBase (st : Settings) (n : Slot) : Nat := baseOf st (.slot n)

/-- The size of a region in bytes. -/
def Region.bytes (r : Region) : Nat := (r.limit.toNat + 1 - r.base.toNat) * 4096

/-- The slot size in bytes (R22). -/
def slotSize (st : Settings) (n : Slot) : Nat := ((entryOfKind st (.slot n)).map Region.bytes).getD 0

/-- Whether a granule lies inside the own range of slot `n`'s entry (R26). -/
def insideSlot (st : Settings) (n : Slot) (g : Nat) : Bool :=
  ((entryOfKind st (.slot n)).map fun r => r.covers g).getD false

/-- The base of the manifest area, from the MANIFEST entry's own base (R23, section 3.1). -/
def areaBase (st : Settings) : Nat := baseOf st .manifest

/-- The sector of the manifest area that a granule forms, if any (section 3.1). -/
def sectorOf (st : Settings) (g : Nat) : Option (Fin 4) :=
  (entryOfKind st .manifest).bind fun r =>
    if h : r.base.toNat ≤ g ∧ g - r.base.toNat < 4 then some ⟨g - r.base.toNat, h.2⟩ else none

/-- The upstream address of an offset in the manifest area. -/
def areaAddr (st : Settings) (offset : Nat) : Addr := BitVec.ofNat 24 (areaBase st + offset)

/-! ### Slot roles (R27) -/

/-- The staging slot: the slot that is not the committed slot. -/
def stagingSlot (s : State) : Slot := otherSlot s.bsv.image.committed

/-- R27: the trial slot while the part is in RUN and the boot state is TRIAL, the committed slot otherwise. -/
def bootSlot (s : State) : Slot :=
  if s.sup.part = .run ∧ s.bsv.image.boot = .trial then s.bsv.image.trial else s.bsv.image.committed

/-- R30: the address in a slot of an address of the boot view. -/
def translate (st : Settings) (slot : Slot) (a : Addr) : Nat := slotBase st slot + (a.toNat - baseOf st .bootView)

/-- R32: the flash address a granule's own mapping gives to an address, if any. -/
def mappedTo (st : Settings) (slot : Slot) (a : Addr) : Option Nat :=
  match (lookup st (granuleOf a)).kind with
  | .slot _ | .manifest | .openArea | .locked => some a.toNat
  | .bootView => some (translate st slot a)
  | .report | .hidden => none

/-! ### Classification of command codes (R2) -/

/-- Whether a class carries an address. -/
def addressed : CmdClass → Bool
  | .read | .program | .erase4k | .erase64k => true
  | .statusRead | .writeEnable | .writeDisable | .eraseAll | .pass | .block => false

/-- The first entry of the table whose code equals the byte. -/
def entryOfCode (st : Settings) (code : Byte) : Option CmdEntry :=
  st.commands.toList.findSome? fun e => e.bind fun e => if e.code = code then some e else none

/-- R2: the class of a command code. An addressed class whose entry carries no address is treated as BLOCK; an unlisted
code takes the policy. -/
def classOf (st : Settings) (code : Byte) : CmdClass :=
  match entryOfCode st code with
  | some e => if addressed e.cls && !e.addrFlag then .block else e.cls
  | none =>
    match st.policy with
    | .block => .block
    | .pass => .pass

/-- The dummy bytes of a transaction: the entry's count for READ and STATUS_READ, none for the others (R2). -/
def dummiesOf (st : Settings) (code : Byte) : Nat :=
  match entryOfCode st code with
  | some e =>
    match e.cls with
    | .read | .statusRead => e.dummies
    | .writeEnable | .writeDisable | .program | .erase4k | .erase64k | .eraseAll | .pass | .block => 0
  | none => 0

/-! ### The constraints on a region table (R22) -/

/-- The number of granules of an entry. -/
def Region.granules (r : Region) : Nat := r.limit.toNat + 1 - r.base.toNat

/-- The entries of one shape. -/
def entriesWhere (rs : List Region) (p : RegionKind → Bool) : List Region := rs.filter fun r => p r.kind

/-- R22: every constraint on the non-empty entries of a region table, for a flash of 2^F bytes. -/
def regionsOk (rs : List Region) (flashExp : Nat) : Bool :=
  let size := 2 ^ (flashExp - 12)
  let slots := entriesWhere rs fun k => k = .slot .slot0 ∨ k = .slot .slot1
  let manifests := entriesWhere rs (· = .manifest)
  rs.all (fun r => r.base.toNat ≤ r.limit.toNat) &&
  (entriesWhere rs (· = .slot .slot0)).length == 1 &&
  (entriesWhere rs (· = .slot .slot1)).length == 1 &&
  slots.all (fun r => slots.all fun q => r.granules == q.granules) &&
  slots.all (fun r => r.base.toNat % 16 == 0 && r.granules % 16 == 0) &&
  slots.all (fun r => 16 ≤ r.granules && r.granules ≤ 2048) &&
  slots.all (fun r => r.limit.toNat < size) &&
  (entriesWhere rs (· = .bootView)).length ≤ 1 &&
  (entriesWhere rs (· = .bootView)).all (fun r => slots.all fun q => r.granules == q.granules) &&
  manifests.length == 1 &&
  manifests.all (fun r => r.granules == 4 && r.limit.toNat < size) &&
  (entriesWhere rs (· = .report)).length ≤ 1 &&
  (entriesWhere rs (· = .report)).all (fun r => r.granules == 1)

end Sys2Proof.Machine
end

