-- ==== Sys2Proof/Machine/Flags.lean ====
section
/-!
DEFINITION. The views the spec names beside the stored state (log 7): whether the queue is served, the Verify Engine's
state, the chunk counts, the three status lines, and what UDO carries.
-/

namespace Sys2Proof.Machine

/-- The set states in which the chunk transitions apply (R80) and, in RUN, the queue is served (R91). -/
def liveState : SetState → Bool
  | .receiving | .closed | .ready | .committing | .trial | .installed => true
  | .idle | .reverted | .abandoned | .rejected => false

/-- The set states of a set being prepared: RECEIVING, CLOSED or READY (R28, R71, R163). -/
def preparing : SetState → Bool
  | .receiving | .closed | .ready => true
  | .idle | .committing | .trial | .installed | .reverted | .abandoned | .rejected => false

/-- The set states that admit an OPEN and a manifest erase (R48, R57). -/
def settledState : SetState → Bool
  | .idle | .installed | .reverted | .abandoned | .rejected => true
  | .receiving | .closed | .ready | .committing | .trial => false

/-- R91: the queue is served. -/
def served (s : State) : Bool := s.sup.part == .run && liveState s.stm.setState

/-- R102, R103: VEN's state, from its context, its hold of the port, and the queue. -/
def venState (s : State) : VenState :=
  match s.scan with
  | some _ => if s.trc.flash.map FlashTxn.owner = some .scan then .reading else .paused
  | none => if served s && !s.ckt.queue.isEmpty then .waiting else .idle

/-- R78: the number of chunk records in a state. -/
def chunkCount (s : State) (st : ChunkState) : Nat := s.ckt.chunks.countP fun c => c.state = st

/-- R89: every chunk of the set is GOOD, answered from the counts. -/
def allGood (s : State) : Bool := chunkCount s .good == s.ckt.chunks.length

/-- Whether FLASH_BUSY is set (R14). -/
def flashBusy (s : State) : Bool := s.trc.busy.isSome

/-- R41: whether a sector reports clean: its flag is clean, or it lies wholly below the append point. -/
def reportsClean (l : Lgp) (k : Fin 4) : Bool := l.clean[k] || decide ((k.val + 1) * 4096 ≤ l.appendPoint)

/-- The record start of the record in progress: the buffer holds the bytes appended since (R36). -/
def recordStart (l : Lgp) : Nat := l.appendPoint - l.buffer.length

/-! ### Status lines (R154 to R156) -/

/-- R154: ALERT is asserted exactly while the list holds an ATTENTION event, except during STARTING. -/
def alertAsserted (s : State) : Bool := awake s && s.rpu.events.any fun e => attention e.kind

/-- R155: the condition of a source. -/
def sourceHigh (s : State) : LineSource → Bool
  | .const0 => false
  | .const1 => true
  | .setReady => s.stm.setState == .ready
  | .trial => s.bsv.image.boot == .trial
  | .bootSlot => bootSlot s == .slot1
  | .scanning => venState s == .reading || venState s == .paused
  | .degraded => s.sup.part == .degraded
  | .alert => alertAsserted s
  | .flashBusy => flashBusy s

/-- R155, R156: ST0 shows its source, and is low from the start of a start-up until the release step. -/
def st0High (s : State) : Bool := awake s && sourceHigh s s.settings.st0

/-- R155, R156: ST1. -/
def st1High (s : State) : Bool := awake s && sourceHigh s s.settings.st1

/-! ### UDO (R3, R4, R8, R9, R19, R25) -/

/-- The byte an answered read returns at an address: the snapshot's byte at the address minus the window base (R25). -/
def answerByte (s : State) (a : Addr) : Byte :=
  (s.rpu.snapshot.getD []).getD (a.toNat - baseOf s.settings .report) 0xFF#8

/-- What UDO carries in the data phase for a byte at the running address while FDI returns `fdi`. A transaction R19
ignores, a filled or suppressed one and one without a disposition carry FFh. -/
def udo (s : State) (fdi : Byte) : Byte :=
  match s.trc.txn.disposition, s.trc.txn.running with
  | some .answer, some a => answerByte s a
  | some .forward, _ => if s.trc.flash.isSome then fdi else 0xFF#8
  | some .translate, _ => if s.trc.flash.isSome then fdi else 0xFF#8
  | _, _ => 0xFF#8

/-- The phases of an upstream transaction (section 1.1). -/
inductive TxnPhase where
  | command | address | dummy | data
  deriving DecidableEq, Repr

/-- The phase that byte `n` of a transaction, the command byte being byte 0, falls in by its command code (R2). -/
def phaseOf (st : Settings) (code : Byte) (n : Nat) : TxnPhase :=
  let address := if addressed (classOf st code) then 3 else 0
  if n = 0 then .command
  else if n ≤ address then .address
  else if n ≤ address + dummiesOf st code then .dummy
  else .data

/-- What UDO carries during byte `n` of the open transaction, whose command code is `code`: FFh in the command, address and
dummy phases (R3). -/
def udoAt (s : State) (code : Byte) (n : Nat) (fdi : Byte) : Byte :=
  match phaseOf s.settings code n with
  | .command | .address | .dummy => 0xFF#8
  | .data => udo s fdi

end Sys2Proof.Machine
end

