-- ==== Sys2Proof/Machine/Tracker.lean ====
section
/-!
DEFINITION. The Chunk Tracker's operations (spec 05) and the two reports it makes to the Set Manager (R67, R89).
-/

namespace Sys2Proof.Machine

/-! ### Geometry of chunks (R62, R78) -/

/-- The chunk size of the current set, 2^E bytes. -/
def chunkSize (cs : CurrentSet) : Nat := 2 ^ cs.chunkExp

/-- The component at an index. -/
def componentAt (s : State) (k : Nat) : Option Component := (s.stm.comps.toList.getD k none)

/-- A chunk's start address: the target slot's base plus the component's offset plus the index times the chunk size. -/
def chunkStart (st : Settings) (cs : CurrentSet) (c : Component) (i : Nat) : Nat :=
  slotBase st cs.target + c.offset + i * chunkSize cs

/-- A chunk's length: the chunk size, except for the last chunk of a component. -/
def chunkLength (cs : CurrentSet) (c : Component) (i : Nat) : Nat :=
  if i + 1 = c.chunkCount then c.length - (c.chunkCount - 1) * chunkSize cs else chunkSize cs

/-- The extent (start, length) of a chunk of the current set. -/
def extentOf (s : State) (r : ChunkRef) : Option (Nat × Nat) :=
  match s.stm.set, componentAt s r.comp with
  | some cs, some c => some (chunkStart s.settings cs c r.chunk, chunkLength cs c r.chunk)
  | _, _ => none

/-- Whether a chunk's extent shares a byte with the `n` bytes from address `a` on (R81). -/
def touches (s : State) (r : ChunkRef) (a n : Nat) : Bool :=
  match extentOf s r with
  | some (start, len) => start < a + n && a < start + len
  | none => false

/-! ### Chunk records and the queue -/

/-- The record of a chunk. -/
def findChunk (s : State) (r : ChunkRef) : Option Chunk := s.ckt.chunks.find? fun c => c.ref = r

/-- A change to the record of one chunk. -/
def updateChunk (r : ChunkRef) (f : Chunk → Chunk) (s : State) : State :=
  s.setCkt { s.ckt with chunks := s.ckt.chunks.map fun c => if c.ref = r then f c else c }

/-- A chunk takes a state. -/
def moveChunk (r : ChunkRef) (st : ChunkState) (s : State) : State := updateChunk r (fun c => { c with state := st }) s

/-- R91: a reference is appended at the tail while the queue is served. -/
def enqueue (r : ChunkRef) (s : State) : State :=
  if served s then s.setCkt { s.ckt with queue := s.ckt.queue ++ [r] } else s

/-- R83, R91: a reference is removed from wherever it stands. -/
def dequeue (r : ChunkRef) (s : State) : State :=
  s.setCkt { s.ckt with queue := s.ckt.queue.filter fun q => q ≠ r }

/-- R109: the scan context is dropped; a read of VEN's in progress is ended. -/
def dropScan (s : State) : State := (releaseScanRead s).setScan none

/-- R91: on entry into ABANDONED, REJECTED or REVERTED the queue is emptied, the scan context is dropped, and the
SCANNING chunk becomes DIRTY. -/
def purge (s : State) : State :=
  (dropScan s).setCkt
    { chunks := s.ckt.chunks.map fun c => if c.state = .scanning then { c with state := .dirty } else c
      queue := [] }

/-- R92: every chunk record, the queue and any scan context are discarded. -/
def discardChunks (s : State) : State := (dropScan s).setCkt { chunks := [], queue := [] }

/-! ### Reports to the Set Manager (R67, R89) -/

/-- The set takes a state. -/
def setSetState (x : SetState) (s : State) : State := s.setStm { s.stm with setState := x }

/-- Every entry into READY posts SET_READY, whose detail is the total chunk count (R67). -/
def enterReady (s : State) : State :=
  post .setReady (detailCount s.ckt.chunks.length) (setSetState .ready s)

/-- R67: a CLOSED set whose chunks are all GOOD enters READY; other states pass the report over. -/
def reportAllGood (s : State) : State := if s.stm.setState = .closed then enterReady s else s

/-- R67: a READY set of which a chunk has left GOOD returns to CLOSED; other states pass the report over. -/
def reportLeftGood (s : State) : State := if s.stm.setState = .ready then setSetState .closed s else s

/-! ### Notices, codes and rescans (R82 to R84, R90) -/

/-- R82: a program notice that touches the chunk `c`. -/
def programChunk (c : Chunk) (s : State) : State :=
  let s := updateChunk c.ref (fun c => { c with written := true }) s
  match c.state with
  | .uncoded | .dirty => s
  | .erased | .bad => enqueue c.ref (moveChunk c.ref .dirty s)
  | .scanning => enqueue c.ref (moveChunk c.ref .dirty (dropScan s))
  | .good => reportLeftGood (enqueue c.ref (moveChunk c.ref .dirty s))

/-- R83: an erase notice that touches the chunk `c`. -/
def eraseChunk (c : Chunk) (s : State) : State :=
  match c.state with
  | .uncoded | .erased => s
  | .dirty => moveChunk c.ref .erased (dequeue c.ref s)
  | .scanning => moveChunk c.ref .erased (dropScan s)
  | .good => reportLeftGood (moveChunk c.ref .erased s)
  | .bad => moveChunk c.ref .erased s

/-- R90: a rescan request that reaches the chunk `c`. -/
def rescanChunk (c : Chunk) (s : State) : State :=
  match c.state with
  | .uncoded | .dirty | .scanning => s
  | .erased | .bad => enqueue c.ref (moveChunk c.ref .dirty s)
  | .good => reportLeftGood (enqueue c.ref (moveChunk c.ref .dirty s))

/-- R84: an expected code reaches the chunk `c`; an UNCODED chunk becomes DIRTY. -/
def codeChunk (c : Chunk) (code : Word32) (s : State) : State :=
  let s := updateChunk c.ref (fun c => { c with expected := some code }) s
  match c.state with
  | .uncoded => enqueue c.ref (moveChunk c.ref .dirty s)
  | .erased | .dirty | .scanning | .good | .bad => s

/-- The operation on each of a list of chunks in turn. -/
def forEachChunk (f : Chunk → State → State) (cs : List Chunk) (s : State) : State :=
  cs.foldl (fun s c => f c s) s

/-- R81: whether CKT takes a granule into account: its effective kind is SLOT with the current set's target slot. -/
def takesGranule (s : State) (g : Nat) : Bool :=
  match s.stm.set with
  | some cs => (lookup s.settings g).kind == .slot cs.target
  | none => false

/-- R80 to R82: the notice of a forwarded program of the 256-byte page at address `page`. -/
def noticeProgram (page : Nat) (s : State) : State :=
  if liveState s.stm.setState && takesGranule s (page / 4096) then
    forEachChunk programChunk (s.ckt.chunks.filter fun c => touches s c.ref page 256) s
  else s

/-- R80, R81, R83: the notice of a forwarded erase that covered the granules `gs`, chunk by chunk in set order. -/
def noticeErase (gs : List Nat) (s : State) : State :=
  if liveState s.stm.setState then
    let taken := gs.filter (takesGranule s)
    forEachChunk eraseChunk (s.ckt.chunks.filter fun c => taken.any fun g => touches s c.ref (g * 4096) 4096) s
  else s

/-- R80, R90: a rescan of one component, or of every declared component, in set order. -/
def rescan (comp : Option Nat) (s : State) : State :=
  if liveState s.stm.setState then
    forEachChunk rescanChunk
      (s.ckt.chunks.filter fun c => match comp with
        | some k => c.ref.comp = k
        | none => true) s
  else s

/-- R62 step 2: the new chunk records of a component, UNCODED, numbered from 0. -/
def newChunks (comp count : Nat) : List Chunk :=
  (List.range count).map fun i =>
    { ref := { comp := comp, chunk := i }, expected := none, state := .uncoded, written := false, mismatches := 0 }

/-- R62 step 2, R78: the records join the others in set order. -/
def createChunks (comp count : Nat) (s : State) : State :=
  let below := s.ckt.chunks.filter fun c => c.ref.comp < comp
  let above := s.ckt.chunks.filter fun c => comp < c.ref.comp
  s.setCkt { s.ckt with chunks := below ++ newChunks comp count ++ above }

end Sys2Proof.Machine
end

