-- ==== Sys2Proof/Machine/Boot.lean ====
section
/-!
DEFINITION. The Boot Supervisor's operations (spec 07): journal writes and their outcomes, trial starts, demands and
reverts, MRST and the confirm timer; and the set-state moves that follow their outcomes (R69, R75).
-/

namespace Sys2Proof.Machine

/-- R75: entry into ABANDONED, REJECTED or REVERTED, with its purge. -/
def enterFrozen (x : SetState) (s : State) : State := purge (setSetState x s)

/-! ### Entries (R117) -/

/-- The journal image with its generation raised by 1 and its empty pairs as they are written (R117, R160). -/
def nextEntry (e : JournalEntry) : JournalEntry :=
  { e with generation := e.generation + 1, pairs := e.pairs.map writtenPair }

/-- The commit entry for a set sequence, a target slot and trial attempts (R122). -/
def commitEntry (e : JournalEntry) (seq : Word16) (target : Slot) (attempts : Nat) : JournalEntry :=
  { nextEntry e with boot := .trial, trial := target, trialSeq := seq, attempts := attempts - 1 }

/-- The attempt entry (R117, R124). -/
def attemptEntry (e : JournalEntry) : JournalEntry := { nextEntry e with attempts := e.attempts - 1 }

/-- The confirmation entry, with the set's component pairs (R128). -/
def confirmationEntry (e : JournalEntry) (pairs : Vector Pair 8) : JournalEntry :=
  { nextEntry e with
    boot := .stable, committed := e.trial, committedSeq := e.trialSeq, attempts := 0, pairs := pairs }

/-- The revert entry (R130). -/
def revertEntry (e : JournalEntry) : JournalEntry :=
  { nextEntry e with boot := .stable, lastReverted := e.trialSeq, attempts := 0 }

/-- R117: no write can be demanded while the image's generation is FFFFFFFEh. -/
def generationSpent (s : State) : Bool := s.bsv.image.generation == 0xFFFFFFFE#32

/-- A write goes in flight. -/
def beginWrite (kind : EntryKind) (entry : JournalEntry) (s : State) : State :=
  s.setBsv { s.bsv with inFlight := some { kind := kind, entry := entry, since := s.now }, retryWait := none }

/-- R119: JOURNAL_FAILED is posted and the write in flight is cleared. -/
def failWrite (kind : EntryKind) (step : FailStep) (s : State) : State :=
  let s := post .journalFailed (detailBytes (byteOf (entryKindCode kind)) (byteOf (failStepCode step))) s
  s.setBsv { s.bsv with inFlight := none, retryWait := none }

/-- R118: a landing entry becomes the journal image with its position, and the next position advances round the
ring. -/
def landEntry (entry : JournalEntry) (s : State) : State :=
  s.setBsv { s.bsv with
    image := entry, position := some s.bsv.next, next := (s.bsv.next + 1) % 16, inFlight := none, retryWait := none }

/-- R118 step 4: the ms a completion poll may last. -/
def pollLimit : Nat := 20

/-- R118: the step at which a write fails, given the bytes sent and what the profile memory returned. A status byte
of FFh shows the memory busy. -/
def writeOutcome (sent : List Byte) (p : PortReply) : Option FailStep :=
  if p.status.getLsbD 0 then some .statusRead
  else if !p.completed then some .completionPoll
  else if p.readBack ≠ sent then some .readBack
  else none

/-! ### MRST, the restart cause and the confirm timer (R120, R121, R126) -/

/-- MRST is asserted; an assertion that finds it asserted keeps the earlier time. A release still waiting is no longer
due (R120). -/
def assertMrst (s : State) : State :=
  s.setBsv { s.bsv with mrst := some (s.bsv.mrst.getD s.now), releaseDue := none }

/-- A release event has occurred: MRST is released once its 10 ms have passed (R120). -/
def dueRelease (e : ReleaseEvent) (s : State) : State :=
  s.setBsv { s.bsv with releaseDue := some e, confirmTaken := false }

/-- The restart cause takes a value (R121). -/
def setRestart (c : RestartCause) (s : State) : State := s.setBsv { s.bsv with restart := c }

/-- The confirm period, 2^n × 250 ms (R126). -/
def confirmPeriod (st : Settings) : Nat := 2 ^ st.confirmExp * 250

/-- The confirm timer starts with its full period. -/
def startTimer (s : State) : State := s.setBsv { s.bsv with confirmTimer := some (confirmPeriod s.settings) }

/-- The confirm timer stops. -/
def stopTimer (s : State) : State := s.setBsv { s.bsv with confirmTimer := none }

/-! ### Reverts (R129 to R131) -/

/-- A demand is held; a demand already held keeps its own reason (R124, R129). -/
def holdDemand (r : RevertReason) (s : State) : State :=
  s.setBsv { s.bsv with demand := some (s.bsv.demand.getD r) }

/-- R131: a failed revert write. At a start-up the demand is dropped, the start-up is marked for DEGRADED and goes on to
the rebuild; in RUN the write in flight is taken as revert again and held through the wait. -/
def revertFails (step : FailStep) (s : State) : State :=
  let s := failWrite .revert step s
  if s.sup.part = .starting then
    (s.setBsv { s.bsv with demand := none }).setSup { s.sup with markDegraded := true, step := .rebuild }
  else
    s.setBsv { s.bsv with
      inFlight := some { kind := .revert, entry := revertEntry s.bsv.image, since := s.now }
      retryWait := some s.now }

/-- R130 step 3: the revert entry write. -/
def writeRevert (s : State) : State :=
  if generationSpent s then revertFails .atOnce s else beginWrite .revert (revertEntry s.bsv.image) s

/-- R130: a revert begins. -/
def beginRevert (s : State) : State := writeRevert (assertMrst (stopTimer s))

/-- R129: a demand from the Set Manager or the Chunk Tracker. With no write in flight the revert begins at once; else
the demand waits for the write's outcome. -/
def demandRevert (r : RevertReason) (s : State) : State :=
  let s := holdDemand r s
  if s.bsv.inFlight.isNone then beginRevert s else s

/-- R130: a revert entry lands. -/
def revertLands (entry : JournalEntry) (s : State) : State :=
  let reason := s.bsv.demand
  let s := setRestart .revert (landEntry entry s)
  let s := postWith .trialReverted entry.trialSeq (detailBytes (byteOf ((reason.map revertCode).getD 0)) 0) s
  let s := s.setBsv { s.bsv with demand := none }
  let s := if s.stm.setState = .trial then enterFrozen .reverted s else s
  if s.sup.part = .starting then s.setSup { s.sup with step := .rebuild } else dueRelease .revertLanded s

/-! ### Trial starts and attempts (R124, R125) -/

/-- R125: an attempt entry write fails: a revert begins under the demand held, or with reason ATTEMPTS. -/
def attemptFails (step : FailStep) (s : State) : State :=
  beginRevert (holdDemand .attempts (failWrite .attempt step s))

/-- R124: a trial start. -/
def trialStart (s : State) : State :=
  if s.bsv.image.attempts = 0 then beginRevert (holdDemand .attempts s)
  else if generationSpent s then attemptFails .atOnce s
  else beginWrite .attempt (attemptEntry s.bsv.image) s

/-- R125: an attempt entry lands, at a start-up or after an expiry. -/
def attemptLands (entry : JournalEntry) (s : State) : State :=
  let s := landEntry entry s
  if s.sup.part = .starting then s.setSup { s.sup with step := .rebuild }
  else if s.bsv.demand.isSome then beginRevert s
  else dueRelease .attemptLanded s

/-! ### Commit and confirmation (R122, R123, R128) -/

/-- R123: a commit entry write fails: the set returns to READY (R69). -/
def commitFails (step : FailStep) (s : State) : State :=
  let s := failWrite .commit step s
  if s.stm.setState = .committing then enterReady s else s

/-- R122: a commit request is taken. -/
def beginCommit (cs : CurrentSet) (s : State) : State :=
  if generationSpent s then commitFails .atOnce s
  else beginWrite .commit (commitEntry s.bsv.image cs.seq cs.target cs.attempts) s

/-- R123: a commit entry lands. -/
def commitLands (entry : JournalEntry) (s : State) : State :=
  let s := setRestart .commit (landEntry entry (assertMrst s))
  let s := postWith .commitDone entry.trialSeq
    (detailBytes (byteOf (slotCode entry.trial)) (byteOf entry.attempts)) s
  let s := if s.stm.setState = .committing then setSetState .trial s else s
  dueRelease .commitLanded s

/-- R128: a confirmation entry write fails: the timer restarts, or a held demand begins its revert. -/
def confirmationFails (step : FailStep) (s : State) : State :=
  let s := failWrite .confirmation step s
  if s.bsv.demand.isSome then beginRevert s else startTimer s

/-- The pairs of a confirm request: identifier and version of each declared component in index order, the rest empty
(R70, R128). -/
def requestPairs (s : State) : Vector Pair 8 :=
  s.stm.comps.map fun c => match c with
    | some c => { ident := c.ident, version := c.version }
    | none => Pair.empty

/-- R128: a confirm request is taken. -/
def beginConfirmation (s : State) : State :=
  let s := stopTimer s
  let s := s.setBsv { s.bsv with confirmTaken := true }
  if generationSpent s then confirmationFails .atOnce s
  else beginWrite .confirmation (confirmationEntry s.bsv.image (requestPairs s)) s

/-- R128, R129: a confirmation entry lands; a demand that waited for it is dropped. -/
def confirmationLands (entry : JournalEntry) (s : State) : State :=
  let s := landEntry entry s
  let s := postWith .confirmed entry.trialSeq (detailBytes (byteOf (slotCode entry.committed)) 0) s
  let s := s.setBsv { s.bsv with demand := none }
  if s.stm.setState = .trial then setSetState .installed s else s

/-! ### Outcomes by kind (R118, R119) -/

/-- The write in flight of a kind, unless it waits for a retry (R131). -/
def writeOf (kind : EntryKind) (s : State) : Option JournalWrite :=
  if s.bsv.retryWait.isSome then none
  else s.bsv.inFlight.bind fun w => if w.kind = kind then some w else none

/-- R119: a failure at a step is handed to the rule for its entry kind. -/
def writeFails (kind : EntryKind) (step : FailStep) (s : State) : State :=
  match kind with
  | .commit => commitFails step s
  | .attempt => attemptFails step s
  | .confirmation => confirmationFails step s
  | .revert => revertFails step s

/-- The failure that a reply of the profile memory shows in the write of a kind; one that shows none is no failure (R118,
log 19). A completion poll fails once its 20 ms have passed (R118 step 4, log 2). -/
def failsByReply (kind : EntryKind) (reply : PortReply) (s : State) : State :=
  match writeOf kind s with
  | some w =>
    match writeOutcome (entryBytes w.entry) reply with
    | some .completionPoll => writeFails kind .completionPoll (elapseTo (w.since + pollLimit) s)
    | some step => writeFails kind step s
    | none => s
  | none => s

end Sys2Proof.Machine
end

