-- ==== Sys2Proof/Machine/Journal.lean ====
section
/-!
DEFINITION. The Boot Supervisor's commands: the outcomes of journal writes, the retry of a revert, the release of MRST and
the expiry of the confirm timer (R118 to R131).
-/

namespace Sys2Proof.Machine

/-- A landing of a kind takes effect only while such a write is in flight. -/
def landsBy (kind : EntryKind) (f : JournalEntry → State → State) (s : State) : State :=
  match writeOf kind s with
  | some w => f w.entry s
  | none => s

/-- JOURNAL_POLL_TIMEOUT (R118 step 4, R119): 20 ms have passed in the completion poll. -/
def execJournalPollTimeout (s : State) : Host.Outcome State Fault Refusal :=
  .next <|
    match s.bsv.inFlight with
    | some w =>
      if s.bsv.retryWait.isSome then s else writeFails w.kind .completionPoll (elapseTo (w.since + pollLimit) s)
    | none => s

/-- COMMIT_ENTRY_LANDS (R123). -/
def execCommitEntryLands (s : State) : Host.Outcome State Fault Refusal := .next (landsBy .commit commitLands s)

/-- COMMIT_ENTRY_FAILS (R123). -/
def execCommitEntryFails (reply : PortReply) (s : State) : Host.Outcome State Fault Refusal :=
  .next (failsByReply .commit reply s)

/-- ATTEMPT_ENTRY_LANDS (R125). -/
def execAttemptEntryLands (s : State) : Host.Outcome State Fault Refusal := .next (landsBy .attempt attemptLands s)

/-- ATTEMPT_ENTRY_FAILS (R125). -/
def execAttemptEntryFails (reply : PortReply) (s : State) : Host.Outcome State Fault Refusal :=
  .next (failsByReply .attempt reply s)

/-- CONFIRMATION_ENTRY_LANDS (R128). -/
def execConfirmationEntryLands (s : State) : Host.Outcome State Fault Refusal :=
  .next (landsBy .confirmation confirmationLands s)

/-- CONFIRMATION_ENTRY_FAILS (R128). -/
def execConfirmationEntryFails (reply : PortReply) (s : State) : Host.Outcome State Fault Refusal :=
  .next (failsByReply .confirmation reply s)

/-- REVERT_ENTRY_LANDS (R130). -/
def execRevertEntryLands (s : State) : Host.Outcome State Fault Refusal := .next (landsBy .revert revertLands s)

/-- REVERT_ENTRY_FAILS (R131). -/
def execRevertEntryFails (reply : PortReply) (s : State) : Host.Outcome State Fault Refusal :=
  .next (failsByReply .revert reply s)

/-- REVERT_RETRY (R131): 250 ms after the failure the revert entry write is tried again. -/
def execRevertRetry (s : State) : Host.Outcome State Fault Refusal :=
  .next <|
    match s.bsv.retryWait with
    | some t => writeRevert (elapseTo (t + 250) s)
    | none => s

/-- MRST_RELEASE (R120): the release event has occurred and 10 ms have passed since the assertion. The confirm timer
starts where the release hands the processor a trial and no confirm request has been taken since the landing (R123, R125,
R126; log 14). -/
def execMrstRelease (s : State) : Host.Outcome State Fault Refusal :=
  .next <|
    match s.bsv.mrst, s.bsv.releaseDue with
    | some t, some e =>
      let s := elapseTo (t + 10) s
      let s := s.setBsv { s.bsv with mrst := none, releaseDue := none }
      if e ≠ .revertLanded ∧ s.bsv.image.boot = .trial ∧ ¬ s.bsv.confirmTaken then startTimer s else s
    | _, _ => s

/-- CONFIRM_TIMER_EXPIRY (R126). -/
def execConfirmTimerExpiry (s : State) : Host.Outcome State Fault Refusal :=
  .next <|
    match s.bsv.confirmTimer with
    | some rest =>
      let s := stopTimer (elapse rest s)
      let s := postWith .trialTimeout s.bsv.image.trialSeq (detailBytes (byteOf s.bsv.image.attempts) 0) s
      trialStart (setRestart .trialTimeout (assertMrst s))
    | none => s

end Sys2Proof.Machine
end

