-- ==== Sys2Proof/Config.lean ====
section
/-!
DEFINITION. What the spec leaves open as a VALUE: one free value with no body, so that no proof can rest on it.
-/

namespace Sys2Proof.Config

/-- FREE VALUE (log 10). The component index that SET_REJECTED names when a COMPONENT or CODES record that passes
the gate has an empty body: R60 takes the index "named in the failing COMPONENT or CODES record's body", and an
empty body names none. The argument is the model's counter of draws, so each draw is a value of its own. -/
opaque unnamedIndex : Nat → Byte

end Sys2Proof.Config
end

