-- ==== Sys2Proof/Machine/Sets.lean ====
section
/-!
DEFINITION. The Set Manager's judgement of records (spec 04): the checks of every kind in their order, live and at
rebuild, and the effects of accepted records.
-/

namespace Sys2Proof.Machine

/-! ### Refusals and rejections (R56, R60) -/

/-- R56: a refused record changes nothing; RECORD_REFUSED carries the record's own sequence, its kind byte and the
reason. -/
def refuseByte (kind : Byte) (reason : RefuseReason) (r : Record) (s : State) : State :=
  postWith .recordRefused r.seq (detailBytes kind (byteOf (refuseCode reason))) s

/-- A refusal of a record of kind 1 to 9. -/
def refuse (kind : RecordKind) (reason : RefuseReason) (r : Record) (s : State) : State :=
  refuseByte (byteOf (recordKindCode kind)) reason r s

/-- R60: the current set is rejected; the detail of SET_REJECTED names a component index. -/
def reject (reason : RejectReason) (comp : Byte) (s : State) : State :=
  let s := s.setStm { s.stm with reason := some reason }
  let s := enterFrozen .rejected s
  post .setRejected (detailBytes (byteOf (rejectCode reason)) comp) s

/-- R60: a rejection by a COMPONENT or CODES record, which names the index in its body; an empty body names none, and
the index is then a free value (log 10). -/
def rejectNamed (reason : RejectReason) (r : Record) (s : State) : State :=
  match r.body with
  | k :: _ => reject reason k s
  | [] => reject reason (Config.unnamedIndex s.freeDraws) (s.setFreeDraws (s.freeDraws + 1))

/-! ### OPEN (R57, R58, R76) -/

/-- The set an OPEN's body declares, where its fields lie in their ranges (R57 check 4). -/
def openFields (r : Record) : Option CurrentSet :=
  let count := (byteAt r.body 1).toNat
  let exponent := (byteAt r.body 2).toNat
  let attempts := (byteAt r.body 3).toNat
  (slotOf (byteAt r.body 0).toNat).bind fun target =>
    if 1 ≤ count ∧ count ≤ 8 ∧ 12 ≤ exponent ∧ exponent ≤ 14 ∧ 1 ≤ attempts ∧ attempts ≤ 7 then
      some { seq := r.seq, target := target, chunkExp := exponent, attempts := attempts, compCount := count,
             rebuildClass := none }
    else none

/-- Whether a sequence exceeds the three journal sequences (R57 check 6, R76). -/
def exceedsJournal (e : JournalEntry) (seq : Word16) : Bool :=
  e.committedSeq < seq && e.trialSeq < seq && e.lastReverted < seq

/-- R57: the checks of a live OPEN, in order. -/
def openVerdict (r : Record) (s : State) : Except RefuseReason CurrentSet :=
  if r.body.length ≠ 4 then .error .malformed
  else if ¬ (s.bsv.image.boot = .stable ∧ settledState s.stm.setState) then .error .wrongState
  else if s.bsv.inFlight.isSome then .error .busy
  else match openFields r with
    | none => .error .malformed
    | some cs =>
      if cs.target ≠ stagingSlot s then .error .wrongSlot
      else if ¬ (exceedsJournal s.bsv.image r.seq ∧ s.stm.logHigh < r.seq) then .error .staleSequence
      else .ok cs

/-- R76: the rebuild class of a sequence, from the winning journal entry. -/
def classOfSeq (e : JournalEntry) (seq : Word16) : RebuildClass :=
  if seq ≤ e.committedSeq then .installed
  else if e.boot = .trial ∧ seq = e.trialSeq then .trial
  else if seq = e.lastReverted then .reverted
  else .unrecognized

/-- R76: the judgement of an OPEN at rebuild, in order. -/
def openRebuildVerdict (r : Record) (s : State) : Except RefuseReason CurrentSet :=
  if r.body.length ≠ 4 then .error .malformed
  else match openFields r with
    | none => .error .malformed
    | some cs =>
      let cls := classOfSeq s.bsv.image r.seq
      if ¬ s.stm.logHigh < r.seq then .error .staleSequence
      else if cls ≠ .unrecognized then .ok { cs with rebuildClass := some cls }
      else if s.bsv.image.boot ≠ .stable then .error .wrongState
      else if s.stm.setState = .trial then .error .wrongState
      else if cs.target ≠ stagingSlot s then .error .wrongSlot
      else if ¬ exceedsJournal s.bsv.image r.seq then .error .staleSequence
      else .ok { cs with rebuildClass := some cls }

/-- R58: an accepted OPEN replaces the current set. -/
def acceptOpen (cs : CurrentSet) (r : Record) (s : State) : State :=
  (discardChunks s).setStm
    { setState := .receiving
      set := some cs
      comps := Vector.replicate 8 none
      accepted := 1
      digest := some (laneStep (digestSeed cs.seq) r.check.toNat)
      reason := none
      mismatchTotal := 0
      logHigh := cs.seq }

/-- A live OPEN record (R57, R58). -/
def takeOpen (r : Record) (s : State) : State :=
  match openVerdict r s with
  | .error e => refuse .openSet e r s
  | .ok cs => acceptOpen cs r s

/-- An OPEN record handed at rebuild (R76, R58). -/
def rebuildOpen (r : Record) (s : State) : State :=
  match openRebuildVerdict r s with
  | .error e => refuse .openSet e r s
  | .ok cs => acceptOpen cs r s

/-! ### The gate, the count and the digest (R59, R65) -/

/-- R59: the gate of COMPONENT, CODES and CLOSE records. -/
def gate (r : Record) (s : State) : Except RefuseReason CurrentSet :=
  match s.stm.set with
  | none => .error .wrongState
  | some cs =>
    if s.stm.setState ≠ .receiving then .error .wrongState
    else if r.seq ≠ cs.seq then .error .wrongSequence
    else .ok cs

/-- R65: the accepted-record count rises by 1 and the record check is folded into the digest. -/
def countRecord (r : Record) (s : State) : State :=
  s.setStm { s.stm with
    accepted := s.stm.accepted + 1
    digest := s.stm.digest.map fun l => laneStep l r.check.toNat }

/-! ### COMPONENT (R61, R62) -/

/-- The component a COMPONENT body declares for a set (R158, R61). -/
def componentFields (cs : CurrentSet) (r : Record) : Component :=
  let len := (field32 r.body 12).toNat
  { ident := field16 r.body 2, version := field32 r.body 4, offset := (field32 r.body 8).toNat, length := len,
    code := field32 r.body 16, chunkCount := (len + chunkSize cs - 1) / chunkSize cs, coded := 0, checked := false }

/-- The declared components. -/
def declared (s : State) : List Component := s.stm.comps.toList.filterMap id

/-- Whether two chunk spans do not overlap (R61 check 6). -/
def spansApart (cs : CurrentSet) (c d : Component) : Bool :=
  c.offset + c.chunkCount * chunkSize cs ≤ d.offset || d.offset + d.chunkCount * chunkSize cs ≤ c.offset

/-- R61 check 8: the journal's image holds a committed pair of this identifier with a version above this one. -/
def rollsBack (e : JournalEntry) (c : Component) : Bool :=
  e.pairs.toList.any fun p => p.ident ≠ 0xFFFF#16 ∧ p.ident = c.ident ∧ c.version < p.version

/-- Whether a set's rebuild class is one the journal knows: installed, trial or reverted (R76). -/
def recognized (cs : CurrentSet) : Bool :=
  match cs.rebuildClass with
  | some .installed | some .trial | some .reverted => true
  | some .unrecognized | none => false

/-- The total of the chunk counts of the declared components. -/
def totalChunks (s : State) : Nat := ((declared s).map Component.chunkCount).sum

/-- R61: the checks of a COMPONENT record that has passed the gate, in order; the index and the component. -/
def componentVerdict (cs : CurrentSet) (r : Record) (s : State) : Except RejectReason (Nat × Component) :=
  let k := (byteAt r.body 0).toNat
  let c := componentFields cs r
  if r.body.length ≠ 20 then .error .malformed
  else if cs.compCount ≤ k then .error .malformed
  else if (componentAt s k).isSome then .error .malformed
  else if c.ident = 0xFFFF#16 ∨ c.length = 0 then .error .malformed
  else if ¬ (c.offset % chunkSize cs = 0 ∧ c.offset + c.length ≤ slotSize s.settings cs.target) then .error .extent
  else if ¬ (declared s).all (spansApart cs c) then .error .extent
  else if 1024 < totalChunks s + c.chunkCount then .error .extent
  else if ¬ recognized cs ∧ rollsBack s.bsv.image c then .error .rollback
  else if ¬ halvesBelow c.code then .error .codeRange
  else .ok (k, c)

/-- A component takes a table position. -/
def putComponent (k : Nat) (c : Component) (s : State) : State :=
  s.setStm { s.stm with comps := s.stm.comps.setIfInBounds k (some c) }

/-- A COMPONENT record (R59, R61, R62), live or at rebuild. -/
def takeComponent (r : Record) (s : State) : State :=
  match gate r s with
  | .error e => refuse .component e r s
  | .ok cs =>
    match componentVerdict cs r s with
    | .error e => rejectNamed e r s
    | .ok (k, c) => countRecord r (createChunks k c.chunkCount (putComponent k c s))

/-! ### CODES (R63, R64) -/

/-- The `n` chunk codes of a CODES body. -/
def codesOf (r : Record) (n : Nat) : List Word32 := (List.range n).map fun i => field32 r.body (4 + 4 * i)

/-- The chunks of a CODES run with their codes, in chunk order. -/
def runOf (k first : Nat) (codes : List Word32) : List (ChunkRef × Word32) :=
  codes.zipIdx.map fun p => ({ comp := k, chunk := first + p.2 }, p.1)

/-- The expected code a chunk holds. -/
def expectedOf (s : State) (r : ChunkRef) : Option Word32 := (findChunk s r).bind Chunk.expected

/-- R63: the checks of a CODES record that has passed the gate; the index, the component and the run. -/
def codesVerdict (cs : CurrentSet) (r : Record) (s : State) :
    Except RejectReason (Nat × Component × List (ChunkRef × Word32)) :=
  let k := (byteAt r.body 0).toNat
  let n := (byteAt r.body 1).toNat
  let first := (field16 r.body 2).toNat
  let codes := codesOf r n
  let run := runOf k first codes
  if ¬ (1 ≤ n ∧ n ≤ 61 ∧ r.body.length = 4 + 4 * n) then .error .malformed
  else if cs.compCount ≤ k then .error .malformed
  else match componentAt s k with
    | none => .error .malformed
    | some c =>
      if c.chunkCount < first + n then .error .malformed
      else if ¬ codes.all halvesBelow then .error .codeRange
      else if run.any (fun p => (expectedOf s p.1).any (· ≠ p.2)) then .error .codeConflict
      else .ok (k, c, run)

/-- R64 step 1 for one chunk of the run: a chunk that holds no code takes it (R84). -/
def storeCode (p : ChunkRef × Word32) (s : State) : State :=
  match findChunk s p.1 with
  | some c => if c.expected.isNone then codeChunk c p.2 s else s
  | none => s

/-- The expected codes of a component's chunks, in chunk order (R97). -/
def expectedCodes (s : State) (k : Nat) : List Word32 :=
  (s.ckt.chunks.filter fun c => c.ref.comp = k).map fun c => c.expected.getD 0

/-- R64: the effects of a CODES record that passed its checks. -/
def acceptCodes (k : Nat) (c : Component) (run : List (ChunkRef × Word32)) (r : Record) (s : State) : State :=
  let fresh := (run.filter fun p => (expectedOf s p.1).isNone).length
  let c := { c with coded := c.coded + fresh }
  let s := putComponent k c (run.foldl (fun s p => storeCode p s) s)
  if fresh ≠ 0 ∧ c.coded = c.chunkCount ∧ ¬ c.checked then
    if componentCode c.ident (expectedCodes s k) = c.code then
      countRecord r (putComponent k { c with checked := true } s)
    else rejectNamed .componentCode r s
  else countRecord r s

/-- A CODES record (R59, R63, R64), live or at rebuild. -/
def takeCodes (r : Record) (s : State) : State :=
  match gate r s with
  | .error e => refuse .codes e r s
  | .ok cs =>
    match codesVerdict cs r s with
    | .error e => rejectNamed e r s
    | .ok (k, c, run) => acceptCodes k c run r s

/-! ### CLOSE (R66) -/

/-- R66 check 5: every index below the component count is declared and every chunk holds an expected code. -/
def complete (cs : CurrentSet) (s : State) : Bool :=
  ((List.range cs.compCount).all fun k => (componentAt s k).isSome) &&
    s.ckt.chunks.all fun c => c.expected.isSome

/-- R66: the checks of a CLOSE record that has passed the gate. -/
def closeVerdict (cs : CurrentSet) (r : Record) (s : State) : Except RejectReason Unit :=
  if r.body.length ≠ 8 then .error .malformed
  else if ¬ halvesBelow (field32 r.body 4) then .error .codeRange
  else if (field16 r.body 0).toNat ≠ s.stm.accepted then .error .closeCount
  else if s.stm.digest.map code32 ≠ some (field32 r.body 4) then .error .closeDigest
  else if ¬ complete cs s then .error .incomplete
  else .ok ()

/-- A CLOSE record (R59, R66), live or at rebuild. -/
def takeClose (r : Record) (s : State) : State :=
  match gate r s with
  | .error e => refuse .close e r s
  | .ok cs =>
    match closeVerdict cs r s with
    | .error e => reject e 0xFF#8 s
    | .ok _ => if allGood s then enterReady s else setSetState .closed s

/-! ### COMMIT, CONFIRM, ABANDON (R68, R70, R71) -/

/-- R68: the checks of a live COMMIT, in order. -/
def commitVerdict (r : Record) (s : State) : Except RefuseReason CurrentSet :=
  if r.body.length ≠ 0 then .error .malformed
  else match s.stm.set with
    | none => .error .noSet
    | some cs =>
      if r.seq ≠ cs.seq then .error .wrongSequence
      else if s.bsv.image.boot ≠ .stable then .error .wrongState
      else if s.stm.setState ≠ .ready then .error .notReady
      else if s.ppc.presence ≠ .present then .error .noStore
      else if s.bsv.inFlight.isSome then .error .busy
      else .ok cs

/-- A live COMMIT record (R68, R122). -/
def takeCommit (r : Record) (s : State) : State :=
  match commitVerdict r s with
  | .error e => refuse .commit e r s
  | .ok cs => beginCommit cs (setSetState .committing s)

/-- R70: the checks of a live CONFIRM, in order. -/
def confirmVerdict (r : Record) (s : State) : Except RefuseReason Unit :=
  if r.body.length ≠ 0 then .error .malformed
  else if s.bsv.image.boot ≠ .trial then .error .wrongState
  else if r.seq ≠ s.bsv.image.trialSeq then .error .wrongSequence
  else match s.stm.set with
    | none => .error .noSet
    | some cs =>
      if cs.seq ≠ s.bsv.image.trialSeq ∨ s.stm.setState ≠ .trial then .error .noSet
      else if s.bsv.inFlight.isSome then .error .busy
      else .ok ()

/-- A live CONFIRM record (R70, R128). -/
def takeConfirm (r : Record) (s : State) : State :=
  match confirmVerdict r s with
  | .error e => refuse .confirm e r s
  | .ok _ => beginConfirmation s

/-- R71 cases 2 to 5: an ABANDON that does not name the trial set. -/
def abandonSet (r : Record) (s : State) : State :=
  match s.stm.set with
  | none => refuse .abandon .noSet r s
  | some cs =>
    if r.seq ≠ cs.seq then refuse .abandon .wrongSequence r s
    else if preparing s.stm.setState then enterFrozen .abandoned s
    else refuse .abandon .wrongState r s

/-- A live ABANDON record (R71). -/
def takeAbandon (r : Record) (s : State) : State :=
  if r.body.length ≠ 0 then refuse .abandon .malformed r s
  else if s.bsv.image.boot = .trial ∧ r.seq = s.bsv.image.trialSeq then
    if s.bsv.demand.isSome then refuse .abandon .busy r s else demandRevert .abandoned s
  else abandonSet r s

/-- An ABANDON record handed at rebuild: case 1 does not apply, and with a current set of a class the journal knows it is
passed over (R71). -/
def rebuildAbandon (r : Record) (s : State) : State :=
  if r.body.length ≠ 0 then refuse .abandon .malformed r s
  else if (s.stm.set.map recognized).getD false then s
  else abandonSet r s

/-! ### CLEAR and RESCAN (R72, R73, R149) -/

/-- R149: the event list is emptied and the overflow flag cleared. -/
def clearEvents (s : State) : State := s.setRpu { s.rpu with events := [], overflow := false }

/-- A live CLEAR record (R72). -/
def takeClear (r : Record) (s : State) : State :=
  if r.body.length ≠ 1 then refuse .clear .malformed r s
  else
    let flags := byteAt r.body 0
    let s := if flags.getLsbD 0 then clearEvents s else s
    if flags.getLsbD 1 then setRestart .none s else s

/-- R73 check 4: the set states that accept a RESCAN. -/
def rescannable : SetState → Bool
  | .receiving | .closed | .ready | .trial | .installed => true
  | .idle | .committing | .reverted | .abandoned | .rejected => false

/-- R73: the checks of a live RESCAN; the component named, or none for all. -/
def rescanVerdict (r : Record) (s : State) : Except RefuseReason (Option Nat) :=
  let k := byteAt r.body 0
  if r.body.length ≠ 1 then .error .malformed
  else match s.stm.set with
    | none => .error .noSet
    | some cs =>
      if r.seq ≠ cs.seq then .error .wrongSequence
      else if ¬ rescannable s.stm.setState then .error .wrongState
      else if k = 0xFF#8 then .ok none
      else if (componentAt s k.toNat).isSome then .ok (some k.toNat)
      else .error .malformed

/-- A live RESCAN record (R73, R90). -/
def takeRescan (r : Record) (s : State) : State :=
  match rescanVerdict r s with
  | .error e => refuse .rescan e r s
  | .ok comp => rescan comp s

/-! ### Taking a record (R47, R52, R56) -/

/-- A live whole record of kind 1 to 9 is handed to the Set Manager (R47). -/
def takeRecord (kind : RecordKind) (r : Record) (s : State) : State :=
  match kind with
  | .openSet => takeOpen r s
  | .component => takeComponent r s
  | .codes => takeCodes r s
  | .close => takeClose r s
  | .commit => takeCommit r s
  | .confirm => takeConfirm r s
  | .abandon => takeAbandon r s
  | .clear => takeClear r s
  | .rescan => takeRescan r s

/-- A whole record of kind 1 to 9 found at rebuild: COMMIT, CONFIRM, CLEAR and RESCAN are skipped (R52). -/
def rebuildRecord (kind : RecordKind) (r : Record) (s : State) : State :=
  match kind with
  | .openSet => rebuildOpen r s
  | .component => takeComponent r s
  | .codes => takeCodes r s
  | .close => takeClose r s
  | .abandon => rebuildAbandon r s
  | .commit | .confirm | .clear | .rescan => s

/-- R75: entry into IDLE on a log reset; the set, its records and its sequence memory are discarded. -/
def enterIdle (s : State) : State := (discardChunks s).setStm Stm.start

/-- R163: a LOG_FULL refusal in RUN abandons a set being prepared. -/
def abandonOnFull (s : State) : State :=
  if s.sup.part = .run ∧ preparing s.stm.setState then enterFrozen .abandoned s else s

/-- R77: the set state settles when the rebuild is complete, and the rebuild class is dropped. -/
def settleSet (s : State) : State :=
  match s.stm.set with
  | none => setSetState .idle s
  | some cs =>
    let s := s.setStm { s.stm with set := some { cs with rebuildClass := none } }
    let clear (s : State) : State :=
      if s.stm.setState = .rejected ∨ s.stm.setState = .abandoned then s.setStm { s.stm with reason := none } else s
    match cs.rebuildClass with
    | some .installed => setSetState .installed (clear s)
    | some .trial => setSetState .trial (clear s)
    | some .reverted => enterFrozen .reverted (clear s)
    | some .unrecognized | none => s

end Sys2Proof.Machine
end

