-- ==== Sys2Proof/Machine/Report.lean ====
section
/-!
DEFINITION. The report window's snapshot (R151 to R153, R161, R162): 4096 bytes built from every block at one moment.
A byte that no field occupies reads FFh.
-/

namespace Sys2Proof.Machine

/-- A bit at a position of a byte. -/
def bitAt (b : Bool) (i : Nat) : Nat := if b then 2 ^ i else 0

/-- A 16-bit field from a number. -/
def bytesNat16 (n : Nat) : List Byte := bytes16 (BitVec.ofNat 16 n)

/-- A 32-bit field from a number. -/
def bytesNat32 (n : Nat) : List Byte := bytes32 (BitVec.ofNat 32 n)

/-- The flags byte 006h. -/
def reportFlags (s : State) : Byte :=
  byteOf (bitAt s.rpu.overflow 0 + bitAt (flashBusy s) 1 + bitAt s.trc.stuck 2 + bitAt (alertAsserted s) 3)

/-- The sector-clean byte 007h. -/
def reportClean (l : Lgp) : Byte :=
  byteOf (bitAt (reportsClean l 0) 0 + bitAt (reportsClean l 1) 1 + bitAt (reportsClean l 2) 2 +
    bitAt (reportsClean l 3) 3)

/-- The header at 000h. The scan fields are shown while a context is present. -/
def reportHeader (s : State) : List Byte :=
  [byteOf (partCode s.sup.part), byteOf (profileCode s.ppc.profile), byteOf (setStateCode s.stm.setState),
    byteOf (bootCode s.bsv.image.boot), byteOf (venCode (venState s)),
    ((s.stm.reason.map fun r => byteOf (rejectCode r)).getD 0xFF#8), reportFlags s, reportClean s.lgp] ++
  (match s.stm.set with
    | some cs => bytes16 cs.seq ++
        [byteOf (slotCode cs.target), byteOf cs.chunkExp, byteOf cs.attempts, byteOf cs.compCount]
    | none => [0x00, 0x00, 0xFF, 0xFF, 0xFF, 0xFF]) ++
  bytesNat16 s.stm.accepted ++ bytesNat16 s.lgp.appendPoint ++ bytesNat16 s.stm.mismatchTotal ++
  bytesNat16 s.ckt.queue.length ++
  (match s.scan with
    | some c => [byteOf c.ref.comp, 0xFF] ++ bytesNat16 c.ref.chunk ++ bytesNat16 c.offset
    | none => [0xFF, 0xFF, 0xFF, 0xFF, 0xFF, 0xFF]) ++
  bytesNat16 (chunkCount s .uncoded) ++ bytesNat16 (chunkCount s .erased) ++ bytesNat16 (chunkCount s .dirty) ++
  bytesNat16 (chunkCount s .scanning) ++ bytesNat16 (chunkCount s .good) ++ bytesNat16 (chunkCount s .bad)

/-- The boot section at 040h. -/
def reportBoot (b : Bsv) : List Byte :=
  entryHead b.image ++
  [(b.position.map byteOf).getD 0xFF#8, byteOf b.next,
    byteOf ((b.inFlight.map fun w => entryKindCode w.kind).getD 0), byteOf ((b.demand.map revertCode).getD 0),
    byteOf (if b.confirmTimer.isSome then 1 else 0), byteOf (restartCode b.restart)] ++
  bytesNat32 (b.confirmTimer.getD 0xFFFFFFFF)

/-- A component position at 0C0h + 32k. -/
def reportComponent : Option Component → List Byte
  | none => fit 32 []
  | some c => fit 32 (bytes16 c.ident ++ bytes32 c.version ++ bytesNat32 c.offset ++ bytesNat32 c.length ++
      bytes32 c.code ++ bytesNat16 c.chunkCount ++ bytesNat16 c.coded ++ [byteOf (if c.checked then 1 else 0)])

/-- The settings at 1C0h and the region table at 1D0h. -/
def reportSettings (s : State) : List Byte :=
  fit 16
    ([byteOf (presenceCode s.ppc.presence), byteOf ((s.ppc.invalid.map invalidCode).getD 0),
      byteOf s.settings.flashExp, byteOf (policyCode s.settings.policy), byteOf s.settings.busyBit,
      byteOf s.settings.welBit, byteOf s.settings.progExp, byteOf s.settings.eraseExp, byteOf s.settings.confirmExp,
      byteOf s.settings.threshold, byteOf (lineSourceCode s.settings.st0), byteOf (lineSourceCode s.settings.st1)]) ++
  s.settings.regions.toList.flatMap fun r => bytes32 (regionItem r)

/-- An entry of the BAD-chunk list (R153, R162). -/
def reportBad (c : Chunk) : List Byte :=
  bytes16 (BitVec.ofNat 3 0 ++ BitVec.ofNat 3 c.ref.comp ++ BitVec.ofNat 10 c.ref.chunk) ++ [byteOf c.mismatches]

/-- The BAD-chunk list at 200h: the first 64 BAD chunks in set order. -/
def reportBadList (s : State) : List Byte :=
  fit 192 (((s.ckt.chunks.filter fun c => c.state = .bad).take 64).flatMap reportBad)

/-- An entry of the event list at 300h + 16m. -/
def reportEvent (e : Event) : List Byte :=
  [byteOf (eventCode e.kind), byteOf (if attention e.kind then 1 else 0), byteOf e.count, 0xFF] ++ bytes16 e.seq ++
  [0xFF, 0xFF] ++ bytes32 e.detail ++ [0xFF, 0xFF, 0xFF, 0xFF]

/-- The chunk state map's 4-bit positions two by two, even position in bits 0 to 3; Fh where there is no chunk. -/
def mapBytes : List Chunk → List Byte
  | [] => []
  | [c] => [byteOf (chunkStateCode c.state + 0xF0)]
  | c :: d :: rest => byteOf (chunkStateCode c.state + 16 * chunkStateCode d.state) :: mapBytes rest

/-- R151, R152: the whole snapshot. -/
def snapshotOf (s : State) : List Byte :=
  fit 0x40 (reportHeader s) ++
  fit 0x40 (reportBoot s.bsv) ++
  fit 0x40 (entryPairs s.bsv.image) ++
  s.stm.comps.toList.flatMap reportComponent ++
  fit 0x40 (reportSettings s) ++
  reportBadList s ++
  fit 0x40 (s.settings.commands.toList.flatMap commandBytes) ++
  fit 0x200 (s.rpu.events.flatMap reportEvent) ++
  fit 0x200 (mapBytes s.ckt.chunks) ++
  fit 0x900 []

end Sys2Proof.Machine
end

