-- ==== Sys2Proof/Machine/Log.lean ====
section
/-!
DEFINITION. The Log Parser (spec 03): append requests, the parsing of records, erases and foreign writes in the area, and
the rebuild's judgement of the records it reads.
-/

namespace Sys2Proof.Machine

/-- The manifest area's size. -/
def areaSize : Nat := 16384

/-! ### Append requests and erase permission (R38, R48) -/

/-- The sector that holds an offset. -/
def sectorOfOffset (o : Nat) : Fin 4 := Fin.ofNat 4 (o / 4096)

/-- R38: the ruling on an append request by its start address: the event of the first check that fails, or none where
it is permitted. -/
def appendRuling (s : State) (a : Addr) : Option EventKind :=
  if s.lgp.appendPoint = areaSize then some .logFull
  else if a.toNat ≠ areaBase s.settings + s.lgp.appendPoint then some .logOutOfOrder
  else if ¬ s.lgp.clean[sectorOfOffset s.lgp.appendPoint] then some .logNotErased
  else none

/-- R48: the ruling on the erase of sector `k`. -/
def sectorErasable (s : State) (k : Fin 4) : Bool :=
  s.bsv.image.boot == .stable && settledState s.stm.setState && (k.val == 0 || s.lgp.appendPoint ≤ k.val * 4096)

/-! ### Headers (R43, R158) -/

/-- The judgement of an 8-byte header: torn with the cells it consumes, or valid with its cell count. -/
inductive HeaderVerdict where
  | torn (cells : Nat) | valid (cells : Nat)
  deriving DecidableEq, Repr

/-- The body length a header declares. -/
def bodyLength (hdr : List Byte) : Nat := (field16 hdr 4).toNat

/-- R43 on the header alone: its kind byte, cell count and body length. -/
def headerShape (hdr : List Byte) : HeaderVerdict :=
  let cells := (byteAt hdr 1).toNat
  let len := bodyLength hdr
  if byteAt hdr 0 = 0xFF#8 then .torn 1
  else if cells < 1 ∨ 8 < cells then .torn 1
  else if 248 < len ∨ cells ≠ (8 + len + 31) / 32 then .torn cells
  else .valid cells

/-- R43: the judgement at a record start. A record whose cells lie beyond the area end is torn. -/
def judgeHeader (start : Nat) (hdr : List Byte) : HeaderVerdict :=
  match headerShape hdr with
  | .torn cells => .torn cells
  | .valid cells => if areaSize < start + 32 * cells then .torn cells else .valid cells

/-- The offset past a record's cells, at most the area end (R44). -/
def cellEnd (start cells : Nat) : Nat := min areaSize (start + 32 * cells)

/-- R45: whether the record check of a complete record agrees. -/
def checkAgrees (hdr body : List Byte) : Bool :=
  recordCheck (byteAt hdr 0) (hdr.take 6 ++ body) == field16 hdr 6

/-- The record in a header and its body (R47). -/
def recordFrom (st : Settings) (start : Nat) (hdr body : List Byte) : Record :=
  { cells := (byteAt hdr 1).toNat, seq := field16 hdr 2, check := field16 hdr 6, body := body,
    start := areaAddr st start }

/-! ### Live parsing (R39, R42 to R46) -/

/-- R44: a torn record: RECORD_TORN, the append point past its cells, the buffer emptied. -/
def tearRecord (start cells : Nat) (s : State) : State :=
  let s := post .recordTorn (detailAddr (areaAddr s.settings start)) s
  s.setLgp { s.lgp with appendPoint := cellEnd start cells, buffer := [], phase := .awaitingHeader }

/-- R46 step 3: a whole record is dealt with by its kind. -/
def handRecord (kind : Byte) (r : Record) (s : State) : State :=
  match recordKindOf kind with
  | some k => takeRecord k r s
  | none => refuseByte kind .unknownKind r s

/-- R45, R46: a complete record is judged and, if whole, finished. -/
def completeRecord (start : Nat) (hdr body : List Byte) (s : State) : State :=
  let cells := (byteAt hdr 1).toNat
  if checkAgrees hdr body then
    let r := recordFrom s.settings start hdr body
    let s := s.setLgp { s.lgp with
      appendPoint := max s.lgp.appendPoint (cellEnd start cells), buffer := [], phase := .awaitingHeader }
    handRecord (byteAt hdr 0) r s
  else tearRecord start cells s

/-- R42: an appended byte joins the buffer; at the eighth header byte the header is judged, and at the declared body length
the record is complete. -/
def appendByte (b : Byte) (s : State) : State :=
  let start := recordStart s.lgp
  let buf := s.lgp.buffer ++ [b]
  let s := s.setLgp { s.lgp with appendPoint := s.lgp.appendPoint + 1, buffer := buf }
  match s.lgp.phase with
  | .awaitingHeader =>
    if buf.length < 8 then s
    else match judgeHeader start buf with
      | .torn cells => tearRecord start cells s
      | .valid _ =>
        if bodyLength buf = 0 then completeRecord start buf [] s
        else s.setLgp { s.lgp with phase := .awaitingBody }
  | .awaitingBody =>
    if buf.length < 8 + bodyLength buf then s
    else completeRecord start (buf.take 8) (buf.drop 8) s

/-- R39: a byte passed to the flash at offset `o` of the area: appended at the append point, left to the flash below
it. -/
def takeByte (o : Nat) (b : Byte) (s : State) : State := if o = s.lgp.appendPoint then appendByte b s else s

/-! ### Erases and foreign writes in the area (R49, R50) -/

/-- R49: the sectors of the area that a list of granules covers. -/
def coveredSector (s : State) (gs : List Nat) (k : Fin 4) : Bool := gs.any fun g => sectorOf s.settings g = some k

/-- R49: the notice of a forwarded erase of the granules `gs`. -/
def noticeLogErase (gs : List Nat) (s : State) : State :=
  let old := s.lgp.appendPoint
  let reset := gs.any fun g => sectorOf s.settings g = some 0 ∧ (lookup s.settings g).kind = .manifest
  let flag (k : Fin 4) : Bool :=
    if coveredSector s gs k then true
    else if reset then s.lgp.clean[k] && decide (old ≤ k.val * 4096)
    else s.lgp.clean[k]
  let s := s.setLgp { s.lgp with clean := Vector.ofFn flag }
  if reset then enterIdle (s.setLgp { s.lgp with appendPoint := 0, buffer := [], phase := .awaitingHeader })
  else s

/-- R50: the notice of a forwarded program of the page at address `page`: under another region's ruling the sector that
holds the page is no longer clean. -/
def noticeLogProgram (page : Nat) (s : State) : State :=
  match sectorOf s.settings (page / 4096) with
  | some k =>
    if (lookup s.settings (page / 4096)).kind = .manifest then s
    else s.setLgp { s.lgp with clean := s.lgp.clean.set k false }
  | none => s

/-! ### The rebuild (R12, R51 to R54) -/

/-- R12: rebuild reads are taken while FLASH_BUSY is clear or STUCK is set, and under both with no poll owed; the port is
free of a poll. -/
def rebuildMayRead (s : State) : Bool :=
  s.sup.step == .rebuild && s.trc.flash.isNone && (!flashBusy s || (s.trc.stuck && !s.lgp.pollOwed))

/-- R12: after a rebuild read under FLASH_BUSY and STUCK one status poll is owed. -/
def afterRead (s : State) : State := s.setLgp { s.lgp with pollOwed := flashBusy s && s.trc.stuck }

/-- The cursor moves to an offset; at the area end the log ends there (R51, R52). Short of that the append point stays as it
stands, the model's choice (log 34). -/
def moveCursor (o : Nat) (s : State) : State :=
  if areaSize ≤ o then s.setLgp { s.lgp with cursor := areaSize, logEnded := true, appendPoint := areaSize }
  else s.setLgp { s.lgp with cursor := o }

/-- R52: a whole record found at rebuild. -/
def handRebuilt (kind : Byte) (r : Record) (s : State) : State :=
  match recordKindOf kind with
  | some k => rebuildRecord k r s
  | none => refuseByte kind .unknownKind r s

/-- R52: a record torn at rebuild. -/
def tearRebuilt (start cells : Nat) (s : State) : State :=
  moveCursor (cellEnd start cells) (post .recordTorn (detailAddr (areaAddr s.settings start)) s)

/-- R51, R52: the rebuild's judgement of the record that begins at the cursor, from the bytes read there. Bytes that end
before the header or the declared body are a read that is not done: nothing happens. -/
def rebuildRecordAt (bytes : List Byte) (s : State) : State :=
  let start := s.lgp.cursor
  let hdr := bytes.take 8
  if bytes.length < 8 then s
  else if byteAt hdr 0 = 0xFF#8 then
    afterRead (s.setLgp { s.lgp with logEnded := true, appendPoint := start })
  else match judgeHeader start hdr with
    | .torn cells => tearRebuilt start cells (afterRead s)
    | .valid cells =>
      let body := (bytes.drop 8).take (bodyLength hdr)
      if body.length < bodyLength hdr then s
      else if checkAgrees hdr body then
        handRebuilt (byteAt hdr 0) (recordFrom s.settings start hdr body)
          (moveCursor (cellEnd start cells) (afterRead s))
      else tearRebuilt start cells (afterRead s)

/-! ### The sector-clean flags at rebuild (R54) -/

/-- The number of kind bytes that one read of R54 returns: those of the cells from the cursor to the end of its sector;
none at the area end. -/
def kindBytesLeft (l : Lgp) : Nat := if l.cursor < areaSize then 128 - l.cursor / 32 % 128 else 0

/-- Whether every kind byte of a sector's cells is FFh (R54). -/
def allBlank (kinds : List Byte) : Bool := kinds.all (· == 0xFF#8)

/-- The offset at which the area's last sector begins. -/
def lastSector : Nat := 12288

/-- R51, R54: the kind-byte read of a sector short of the last; the next sector is then to be read (log 20). -/
def readSector (kinds : List Byte) (s : State) : State :=
  if s.lgp.cursor < lastSector ∧ kinds.length = kindBytesLeft s.lgp then
    afterRead (s.setLgp { s.lgp with
      clean := s.lgp.clean.set (sectorOfOffset s.lgp.cursor) (allBlank kinds)
      cursor := (s.lgp.cursor / 4096 + 1) * 4096 })
  else s

/-- R54: the flags once every sector is read, the last with the kind bytes `kinds`: a sector wholly below the append point
is clean, any other as its kind bytes show. -/
def sectorFound (l : Lgp) (kinds : List Byte) (k : Fin 4) : Bool :=
  decide ((k.val + 1) * 4096 ≤ l.appendPoint) || (if k.val = 3 then allBlank kinds else l.clean[k])

/-- R51: the flash transaction of the rebuild read at the cursor, which begins and ends within its event (log 20): the first
READ entry's code and dummies, and the upstream address of the cursor. -/
def rebuildRead (s : State) : Option FlashTxn :=
  if rebuildMayRead s && decide (s.lgp.cursor < areaSize) then
    (firstEntry s.settings .read).map fun e =>
      { owner := .rebuild, code := e.code, addr := some (areaAddr s.settings s.lgp.cursor), dummies := e.dummies }
  else none

end Sys2Proof.Machine
end

