-- ==== Sys2Proof/Machine/Records.lean ====
section
/-!
DEFINITION. The record commands (spec 04): a live whole record as the Log Parser hands it to the Set Manager (R47), taken on
its own. PROGRAM_DATA_BYTE makes the same hand-off when its byte completes a record (log 5). Live records reach the Set
Manager only while the part is in RUN (R56), and within their append transaction (R47).
-/

namespace Sys2Proof.Machine

/-- A live record is handed in RUN, and in RUN alone (R56); where a transaction is open it is the record's append, so within
any other open transaction no record is handed (R47; log 1, log 5). -/
def handsRecord (s : State) : Bool := s.sup.part == .run && (!s.trc.txn.isOpen || s.trc.txn.cut.isSome)

/-- The hand-off of a live record. -/
def handOff (f : State → State) (s : State) : State := if handsRecord s then f s else s

/-- UNKNOWN_KIND (R46): RECORD_REFUSED by the Log Parser. A kind byte that names a kind, or FFh, is no such record. -/
def execUnknownKind (kind : Byte) (r : Record) (s : State) : Host.Outcome State Fault Refusal :=
  .next <|
    if (recordKindOf kind).isNone ∧ kind ≠ 0xFF#8 then handOff (refuseByte kind .unknownKind r) s else s

/-- OPEN (R57, R58). -/
def execOpenRecord (r : Record) (s : State) : Host.Outcome State Fault Refusal := .next (handOff (takeOpen r) s)

/-- COMPONENT (R59 to R62). -/
def execComponentRecord (r : Record) (s : State) : Host.Outcome State Fault Refusal := .next (handOff (takeComponent r) s)

/-- CODES (R59, R63, R64). -/
def execCodesRecord (r : Record) (s : State) : Host.Outcome State Fault Refusal := .next (handOff (takeCodes r) s)

/-- CLOSE (R59, R66). -/
def execCloseRecord (r : Record) (s : State) : Host.Outcome State Fault Refusal := .next (handOff (takeClose r) s)

/-- COMMIT (R68, R122). -/
def execCommitRecord (r : Record) (s : State) : Host.Outcome State Fault Refusal := .next (handOff (takeCommit r) s)

/-- CONFIRM (R70, R128). -/
def execConfirmRecord (r : Record) (s : State) : Host.Outcome State Fault Refusal := .next (handOff (takeConfirm r) s)

/-- ABANDON (R71, R129). -/
def execAbandonRecord (r : Record) (s : State) : Host.Outcome State Fault Refusal := .next (handOff (takeAbandon r) s)

/-- CLEAR (R72, R149). -/
def execClearRecord (r : Record) (s : State) : Host.Outcome State Fault Refusal := .next (handOff (takeClear r) s)

/-- RESCAN (R73, R90). -/
def execRescanRecord (r : Record) (s : State) : Host.Outcome State Fault Refusal := .next (handOff (takeRescan r) s)

end Sys2Proof.Machine
end

