-- ==== Sys2Proof/Machine/FlashPort.lean ====
section
/-!
DEFINITION. What stands on the flash port and the bytes it sends on FDO, the part's own transactions there, and the tracking
of FLASH_BUSY and STUCK (R11 to R18).
-/

namespace Sys2Proof.Machine

/-- An internal transaction takes the port. -/
def takePort (f : FlashTxn) (s : State) : State := s.setTrc { s.trc with flash := some f }

/-- Whether the transaction on the flash port belongs to a claimant. -/
def portOwnedBy (c : Claimant) (s : State) : Bool := s.trc.flash.map FlashTxn.owner == some c

/-- What stands on the flash port (R10 to R12): the transaction in progress, or the rebuild read now made. -/
def flashPort (s : State) : Option FlashTxn := s.trc.flash <|> rebuildRead s

/-- The three bytes of a flash address, most significant first (R105; R1 for the upstream ones). -/
def addrBytes (a : Addr) : List Byte := [a.extractLsb' 16 8, a.extractLsb' 8 8, a.extractLsb' 0 8]

/-- The bytes a flash transaction sends on FDO (R3, R6, R13, R16, R51, R105): its code, the three bytes of its address where
it carries one, its dummy bytes, its data. The dummy bytes are the processor's in an upstream transaction, and bytes the spec
gives no value in the part's own: `dummy` is any function from a dummy byte's place to its value (log 33). -/
def flashBytes (f : FlashTxn) (dummy : Nat → Byte) : List Byte :=
  f.code :: ((f.addr.map addrBytes).getD [] ++ (List.range f.dummies).map dummy ++ f.data)

/-- R11, R12, R16: a status poll may be granted. In RUN and DEGRADED the cleanup is taken ahead of it; during the rebuild,
with FLASH_BUSY and STUCK both set, one poll follows each rebuild read (log 28). -/
def pollMayRun (s : State) : Bool :=
  portFree s && flashBusy s &&
    (if awake s then !s.trc.cleanup
     else !(s.sup.step == .rebuild && s.trc.stuck && !s.lgp.pollOwed))

/-- R15: the busy tracking of a status byte. -/
def trackBusy (b : Byte) (s : State) : State :=
  match b.getLsbD s.settings.busyBit, s.trc.busy with
  | false, some _ => s.setTrc { s.trc with busy := none, stuck := false }
  | false, none => s
  | true, none => s.setTrc { s.trc with busy := some { since := s.now, kind := .erase, addr := 0 } }
  | true, some _ => s

/-- R17: the busy limit of a period, in ms. -/
def busyLimit (st : Settings) (k : PeriodKind) : Nat :=
  match k with
  | .program => 2 ^ st.progExp
  | .erase => 2 ^ st.eraseExp

/-- WRITE_DISABLE_CLEANUP (R11, R13): the first claimant of the free port. -/
def execWriteDisableCleanup (s : State) : Host.Outcome State Fault Refusal :=
  .next <|
    match firstEntry s.settings .writeDisable with
    | some e =>
      if awake s && portFree s && s.trc.cleanup then
        takePort { owner := .cleanup, code := e.code, addr := none, dummies := 0 } s
      else s
    | none => s

/-- CLEANUP_COMPLETE (R13): FCS is released after the one byte, and the flag is cleared. -/
def execCleanupComplete (s : State) : Host.Outcome State Fault Refusal :=
  .next <| if portOwnedBy .cleanup s then s.setTrc { s.trc with flash := none, cleanup := false } else s

/-- STATUS_POLL (R16). -/
def execStatusPoll (s : State) : Host.Outcome State Fault Refusal :=
  .next <|
    match firstEntry s.settings .statusRead with
    | some e =>
      if pollMayRun s then takePort { owner := .poll, code := e.code, addr := none, dummies := e.dummies } s else s
    | none => s

/-- STATUS_BYTE (R5, R15, R16): from a forwarded STATUS_READ, or from the part's own poll, which then ends. -/
def execStatusByte (b : Byte) (s : State) : Host.Outcome State Fault Refusal :=
  .next <|
    if portOwnedBy .poll s then
      let s := trackBusy b (releaseFlash s)
      s.setLgp { s.lgp with pollOwed := false }
    else if upstreamHolds s ∧ s.trc.txn.cls = some .statusRead ∧ s.trc.txn.disposition = some .forward then
      trackBusy b s
    else s

/-- BUSY_LIMIT_EXPIRY (R17): the period has lasted longer than its limit. -/
def execBusyLimitExpiry (s : State) : Host.Outcome State Fault Refusal :=
  .next <|
    match s.trc.busy with
    | some p =>
      if s.trc.stuck then s
      else
        let s := elapseTo (p.since + busyLimit s.settings p.kind + 1) s
        let s := s.setTrc { s.trc with stuck := true }
        post .flashStuck (detailAddr p.addr) s
    | none => s

end Sys2Proof.Machine
end

