-- ==== Sys2Proof/Machine/Scan.lean ====
section
/-!
DEFINITION. The Verify Engine's commands (spec 06 section 6.4) and the scan outcomes' effects (R86, R87).
-/

namespace Sys2Proof.Machine

/-- R11, R103, R107: the Verify Engine's claim is granted: the queue is served, the port is free, and cleanup pending and
FLASH_BUSY are clear. -/
def scanMayRun (s : State) : Bool := served s && portFree s && !s.trc.cleanup && !flashBusy s

/-- R105: the read of a chunk from a word offset: the first READ entry's code, the chunk's start address plus twice the
offset, and that entry's dummy bytes. -/
def scanRead (s : State) (r : ChunkRef) (offset : Nat) : Option FlashTxn :=
  match firstEntry s.settings .read, extentOf s r with
  | some e, some (start, _) =>
    some { owner := .scan, code := e.code, addr := some (BitVec.ofNat 24 (start + 2 * offset)), dummies := e.dummies }
  | _, _ => none

/-- R96, R104: the context of a scan that begins. -/
def freshContext (c : Component) (r : ChunkRef) : ScanContext :=
  { ref := r, offset := 0, lanes := chunkSeed c.ident r.chunk, held := none }

/-- R85, R104: the head chunk is taken. -/
def takeHead (r : ChunkRef) (rest : List ChunkRef) (c : Component) (f : FlashTxn) (s : State) : State :=
  let s := moveChunk r .scanning (s.setCkt { s.ckt with queue := rest })
  takePort f (s.setScan (some (freshContext c r)))

/-! ### Outcomes (R86 to R88, R74) -/

/-- R74: the mismatch threshold applied to the total. -/
def applyThreshold (s : State) : State :=
  if s.settings.threshold ≠ 0 ∧ s.settings.threshold ≤ s.stm.mismatchTotal ∧ preparing s.stm.setState then
    reject .mismatches 0xFF#8 s
  else s

/-- R86: a BAD outcome on a chunk whose written flag is set. -/
def countMismatch (r : ChunkRef) (s : State) : State :=
  let s := updateChunk r (fun c => { c with mismatches := min 15 (c.mismatches + 1) }) s
  let s := post .chunkBad (detailChunk r) s
  let s := s.setStm { s.stm with mismatchTotal := min 65535 (s.stm.mismatchTotal + 1) }
  applyThreshold s

/-- R86: an outcome in RECEIVING, CLOSED or READY. -/
def preparedOutcome (good : Bool) (c : Chunk) (s : State) : State :=
  if good then
    let s := moveChunk c.ref .good s
    if allGood s then reportAllGood s else s
  else
    let s := moveChunk c.ref .bad s
    if c.written then countMismatch c.ref s else s

/-- R87: an outcome in TRIAL or INSTALLED. -/
def healthOutcome (good : Bool) (c : Chunk) (s : State) : State :=
  if good then moveChunk c.ref .good s
  else
    let s := post .healthBad (detailChunk c.ref) (moveChunk c.ref .bad s)
    if s.stm.setState = .trial ∧ s.bsv.demand.isNone then demandRevert .damaged s else s

/-- R108: with the outcome handed the context is gone and the read ended; the Chunk Tracker applies the outcome by the set
state that then holds. In COMMITTING, where the spec has no outcome arrive, the chunk leaves SCANNING for GOOD or BAD and
nothing more (R79, R85; log 24); in the frozen states and IDLE an outcome changes no record (R80). -/
def scanOutcome (good : Bool) (c : Chunk) (s : State) : State :=
  let s := dropScan s
  match s.stm.setState with
  | .receiving | .closed | .ready => preparedOutcome good c s
  | .trial | .installed => healthOutcome good c s
  | .committing => moveChunk c.ref (if good then .good else .bad) s
  | .idle | .reverted | .abandoned | .rejected => s

/-! ### Bytes of a scan read (R105, R108) -/

/-- The position in the chunk of the next data byte of a scan. -/
def bytePosition (c : ScanContext) : Nat := 2 * c.offset + (if c.held.isSome then 1 else 0)

/-- R105: the context after a data byte; `last` says that it is the chunk's last byte. -/
def foldByte (c : ScanContext) (b : Byte) (last : Bool) : ScanContext :=
  match c.held with
  | some low => { c with offset := c.offset + 1, lanes := laneStep c.lanes (wordOf low b), held := none }
  | none =>
    if last then { c with offset := c.offset + 1, lanes := laneStep c.lanes (wordOf b 0xFF#8) }
    else { c with held := some b }

/-- Whether the next data byte of the scan is the chunk's last. -/
def lastByte (s : State) (c : ScanContext) : Bool :=
  match extentOf s c.ref with
  | some (_, len) => bytePosition c + 1 == len
  | none => false

/-- R105, R108: a whole data byte of a scan read is taken; the last one completes the scan. -/
def scanByte (b : Byte) (c : ScanContext) (s : State) : State :=
  if lastByte s c then
    let done := foldByte c b true
    match findChunk s c.ref with
    | some k => scanOutcome (k.expected == some (code32 done.lanes)) k s
    | none => s
  else s.setScan (some (foldByte c b false))

/-! ### The meanings -/

/-- SCAN_START (R85, R104). -/
def execScanStart (s : State) : Host.Outcome State Fault Refusal :=
  .next <|
    match s.ckt.queue with
    | r :: rest =>
      match componentAt s r.comp, scanRead s r 0 with
      | some c, some f => if s.scan.isNone && scanMayRun s then takeHead r rest c f s else s
      | _, _ => s
    | [] => s

/-- SCAN_RESUME (R107). -/
def execScanResume (s : State) : Host.Outcome State Fault Refusal :=
  .next <|
    match s.scan with
    | some c =>
      match scanRead s c.ref c.offset with
      | some f => if scanMayRun s then takePort f s else s
      | none => s
    | none => s

/-- SCAN_WORD (R105). -/
def execScanWord (b : Byte) (s : State) : Host.Outcome State Fault Refusal :=
  .next <|
    match s.scan with
    | some c => if portOwnedBy .scan s then scanByte b c s else s
    | none => s

/-- SCAN_COMPLETE (R108): the chunk's last data byte (log 6). -/
def execScanComplete (b : Byte) (s : State) : Host.Outcome State Fault Refusal :=
  .next <|
    match s.scan with
    | some c => if portOwnedBy .scan s && lastByte s c then scanByte b c s else s
    | none => s

end Sys2Proof.Machine
end

