-- ==== Sys2Proof/Machine/Profile.lean ====
section
/-!
DEFINITION. The profile image (spec 08 section 8.3, R136 to R140, R159): its judgement, its items, their clamping, and the
settings in force.
-/

namespace Sys2Proof.Machine

/-! ### The built-in settings (R21, R140) -/

/-- A region entry from its kind and granule range. -/
def region (k : RegionKind) (base limit : Nat) : Option Region :=
  some { kind := k, base := BitVec.ofNat 12 base, limit := BitVec.ofNat 12 limit }

/-- The built-in region table (R21). -/
def builtInRegions : Vector (Option Region) 12 :=
  #v[region .report 0xFFF 0xFFF, region .bootView 0x800 0x9FF, region (.slot .slot0) 0x000 0x1FF,
    region (.slot .slot1) 0x200 0x3FF, region .manifest 0x400 0x403, region .openArea 0x404 0x7FF,
    none, none, none, none, none, none]

/-- A command entry. -/
def command (code : Nat) (c : CmdClass) (addrFlag : Bool) (dummies : Nat) : Option CmdEntry :=
  some { code := BitVec.ofNat 8 code, cls := c, addrFlag := addrFlag, dummies := dummies }

/-- The built-in command class table (R140). -/
def builtInCommands : Vector (Option CmdEntry) 24 :=
  #v[command 0x03 .read true 0, command 0x0B .read true 1, command 0x05 .statusRead false 0,
    command 0x06 .writeEnable false 0, command 0x04 .writeDisable false 0, command 0x02 .program true 0,
    command 0x20 .erase4k true 0, command 0xD8 .erase64k true 0, command 0xC7 .eraseAll false 0,
    command 0x60 .eraseAll false 0, command 0x9F .pass false 0, command 0x01 .block false 0,
    none, none, none, none, none, none, none, none, none, none, none, none]

/-- The settings in force in profile states DEFAULT and INVALID: the built-in tables and the defaults of R138. -/
def builtInSettings : Settings :=
  { Settings.start with regions := builtInRegions, commands := builtInCommands }

/-! ### The image (R136, R159) -/

/-- What the profile memory returns from an address on: the bytes it drives, then FFh from the pulled-up PDI (R133,
section 8.1). -/
def pulledUp (n : Nat) (driven : List Byte) : List Byte := fit n driven

/-- The entry byte count in the header. -/
def entryBytesCount (img : List Byte) : Nat := (field16 img 2).toNat

/-- The item number and value of each whole entry, in order; up to four bytes left over form no entry (R137). -/
def itemsOf : List Byte → List (Byte × Word32)
  | k :: b0 :: b1 :: b2 :: b3 :: rest => (k, field32 [b0, b1, b2, b3] 0) :: itemsOf rest
  | _ => []

/-- R137: the value taken for an item, from the last entry that gives it. -/
def itemValue (items : List (Byte × Word32)) (item : Nat) : Option Word32 :=
  (items.reverse.find? fun p => p.1.toNat = item).map Prod.snd

/-- R138: a scalar item's value clamped into a range, or its default where no entry gives it. -/
def scalar (items : List (Byte × Word32)) (item low high dflt : Nat) : Nat :=
  match itemValue items item with
  | some v => max low (min high v.toNat)
  | none => dflt

/-- An 8-bit position inside item 40h, clamped to 7 (R138, R159). -/
def bitPosition (items : List (Byte × Word32)) (shift dflt : Nat) : Nat :=
  match itemValue items 0x40 with
  | some v => min 7 (v.extractLsb' shift 8).toNat
  | none => dflt

/-- A status line's source: a value above 8 selects constant 0 (R138). -/
def lineOf (items : List (Byte × Word32)) (item : Nat) (dflt : LineSource) : LineSource :=
  match itemValue items item with
  | some v => lineSourceOf v.toNat
  | none => dflt

/-- A table position's item: an outer none fails ENTRY; a position with no entry is empty (R137). -/
def regionAt (items : List (Byte × Word32)) (i : Nat) : Option (Option Region) :=
  match itemValue items (0x10 + i) with
  | some v => regionOfItem v
  | none => some none

/-- The same for a command position. -/
def commandAt (items : List (Byte × Word32)) (i : Nat) : Option (Option CmdEntry) :=
  match itemValue items (0x20 + i) with
  | some v => commandOfItem v
  | none => some none

/-- The settings the taken entries give, clamped (R137, R138). -/
def settingsOf (items : List (Byte × Word32)) : Settings :=
  { regions := Vector.ofFn fun i => (regionAt items i.val).join
    commands := Vector.ofFn fun i => (commandAt items i.val).join
    policy := if itemValue items 0x02 = some 1#32 then .pass else .block
    flashExp := scalar items 0x01 20 24 23
    busyBit := bitPosition items 0 0
    welBit := bitPosition items 8 1
    progExp := scalar items 0x41 0 12 3
    eraseExp := scalar items 0x42 0 12 10
    confirmExp := scalar items 0x43 0 7 5
    threshold := scalar items 0x44 0 255 0
    st0 := lineOf items 0x45 .setReady
    st1 := lineOf items 0x46 .trial }

/-- R139 test ENTRY: the item number of the first position that fails, regions first. -/
def failingItem (items : List (Byte × Word32)) : Option Nat :=
  let regions := (List.range 12).filter fun i => (regionAt items i).isNone
  let commands := (List.range 24).filter fun i => (commandAt items i).isNone
  (regions.map (0x10 + ·) ++ commands.map (0x20 + ·)).head?

/-- R139 test COMMANDS. -/
def commandsOk (st : Settings) : Bool :=
  ((firstEntry st .read).map CmdEntry.addrFlag).getD false &&
    (firstEntry st .statusRead).isSome && (firstEntry st .writeDisable).isSome

/-- The outcome of the profile load: LOADED with its settings, DEFAULT, or INVALID with its reason and, for ENTRY, the
item number (R136, R139). -/
inductive ProfileVerdict where
  | loaded (st : Settings) | default | invalid (reason : InvalidReason) (item : Nat)
  deriving DecidableEq, Repr

/-- R139: the tests on the taken entries, in order. -/
def judgeItems (items : List (Byte × Word32)) : ProfileVerdict :=
  let st := settingsOf items
  match failingItem items with
  | some item => .invalid .entry item
  | none =>
    if ¬ commandsOk st then .invalid .commands 0
    else if ¬ regionsOk (st.regions.toList.filterMap id) st.flashExp then .invalid .regions 0
    else .loaded st

/-- R136: the tests on the image, in order, then those of R139. -/
def judgeImage (img : List Byte) : ProfileVerdict :=
  let count := entryBytesCount img
  if byteAt img 0 ≠ 0xA6#8 then .default
  else if byteAt img 1 ≠ 0x01#8 then .invalid .format 0
  else if 2042 < count then .invalid .length 0
  else if storeCheck (img.take (4 + count)) ≠ field16 img (4 + count) then .invalid .check 0
  else judgeItems (itemsOf ((img.drop 4).take count))

end Sys2Proof.Machine
end

