-- ==== Sys2Proof/Machine/StartUp.lean ====
section
/-!
DEFINITION. Power-on, line reset and the start-up sequence (spec 08 sections 8.2 and 8.5, spec 03 section 3.5).
-/

namespace Sys2Proof.Machine

/-- The start-up goes on to a step. -/
def goTo (step : StartStep) (s : State) : State := s.setSup { s.sup with step := step }

/-- R141: at the start of a start-up each block takes its start values; the event list and the restart cause are the
caller's. -/
def startValues (mrstSince : Nat) (cause : RestartCause) (rpu : Rpu) (s : State) : State :=
  { s with
    trc := Trc.start, settings := Settings.start, lgp := Lgp.start, stm := Stm.start, ckt := Ckt.start, scan := none,
    bsv := Bsv.start mrstSince cause, ppc := Ppc.start,
    sup := { part := .starting, step := .held, markDegraded := false, rstin := s.sup.rstin }, rpu := rpu }

/-- R141, R121: the sequence begins: the restart cause becomes START if it is NONE. -/
def beginSequence (s : State) : State :=
  goTo .presence (if s.bsv.restart = .none then setRestart .start s else s)

/-- POWER_ON (R141): the power-on values; with RSTIN asserted the part waits for its release. -/
def execPowerOn (s : State) : Host.Outcome State Fault Refusal :=
  .next <|
    let t := startValues s.now .none Rpu.start s
    if s.sup.rstin then t else beginSequence t

/-- RSTIN_ASSERTED (R114, R141, R144, R145, R157): work in progress ends, the event list, the overflow flag and the restart
cause are kept, and LINE_RESET is posted with the part state that held. MRST keeps its earlier assertion time if it was
asserted (R120). -/
def execRstinAsserted (s : State) : Host.Outcome State Fault Refusal :=
  .next <|
    if s.sup.rstin then s
    else
      let part := s.sup.part
      let s := startValues (s.bsv.mrst.getD s.now) s.bsv.restart { s.rpu with snapshot := none } s
      let s := s.setSup { s.sup with rstin := true }
      post .lineReset (detailBytes (byteOf (partCode part)) 0) s

/-- RSTIN_RELEASED (R141): the start-up sequence begins with the presence check. -/
def execRstinReleased (s : State) : Host.Outcome State Fault Refusal :=
  .next <| if s.sup.rstin then beginSequence (s.setSup { s.sup with rstin := false }) else s

/-- The presence result is known, and the profile load is next (R135, R142). -/
def presenceKnown (p : Presence) (s : State) : State :=
  goTo .profileLoad (s.setPpc { s.ppc with presence := p, pollSince := none })

/-- PRESENCE_CHECK (R135). -/
def execPresenceCheck (b : Byte) (s : State) : Host.Outcome State Fault Refusal :=
  .next <|
    if s.sup.step ≠ .presence then s
    else if b = 0xFF#8 then presenceKnown .absent s
    else if ¬ b.getLsbD 0 then presenceKnown .present s
    else s.setPpc { s.ppc with pollSince := some (s.ppc.pollSince.getD s.now) }

/-- PRESENCE_TIMEOUT (R135): 20 ms since the first byte. -/
def execPresenceTimeout (s : State) : Host.Outcome State Fault Refusal :=
  .next <|
    match s.ppc.pollSince with
    | some t => if s.sup.step = .presence then presenceKnown .absent (elapseTo (t + 20) s) else s
    | none => s

/-! ### The profile load (R136 to R140) -/

/-- The settings in force and the profile state are applied. -/
def applySettings (st : Settings) (p : ProfileState) (why : Option InvalidReason) (s : State) : State :=
  (s.setSettings st).setPpc { s.ppc with profile := p, invalid := why }

/-- R140: the verdict's settings and events; `absent` says that the memory did not answer. -/
def applyVerdict (v : ProfileVerdict) (absent : Bool) (s : State) : State :=
  match v with
  | .loaded st => applySettings st .loaded none s
  | .default =>
    post .profileDefault (detailBytes (if absent then 1 else 2) 0) (applySettings builtInSettings .default none s)
  | .invalid why item =>
    post .profileInvalid (detailBytes (byteOf (invalidCode why)) (byteOf item))
      (applySettings builtInSettings .invalid (some why) s)

/-- R18: the start-up status check begins. -/
def startStatusCheck (s : State) : State :=
  s.setTrc { s.trc with busy := some { since := s.now, kind := .erase, addr := 0 }, stuck := false }

/-- PROFILE_LOAD (R136 to R140, R18). With the memory absent nothing is read: DEFAULT, and the journal read is passed
over with NO_STORE (R135, R116; log 15). -/
def execProfileLoad (image : List Byte) (s : State) : Host.Outcome State Fault Refusal :=
  .next <|
    if s.sup.step ≠ .profileLoad then s
    else if s.ppc.presence = .present then
      goTo .journalRead (startStatusCheck (applyVerdict (judgeImage (pulledUp 2048 image)) false s))
    else goTo .rebuild (post .noStore 0 (startStatusCheck (applyVerdict .default true s)))

/-! ### The journal read and the trial-start accounting (R116, R124, R142) -/

/-- The 64 bytes at a journal position. -/
def positionBytes (img : List Byte) (p : Nat) : List Byte := (img.drop (64 * p)).take 64

/-- R116: of two candidates in position order the later wins only with a higher generation. -/
def better (best : Option (Nat × JournalEntry)) (p : Nat) (e : Option JournalEntry) : Option (Nat × JournalEntry) :=
  match best, e with
  | none, some e => some (p, e)
  | some (q, b), some e => if b.generation < e.generation then some (p, e) else some (q, b)
  | best, none => best

/-- R116: the winning entry and its position. -/
def winningEntry (img : List Byte) : Option (Nat × JournalEntry) :=
  (List.range 16).foldl (fun best p => better best p (entryOf (positionBytes img p))) none

/-- R116: the journal image, its position and the next position. -/
def applyJournal (w : Option (Nat × JournalEntry)) (s : State) : State :=
  match w with
  | some (p, e) => s.setBsv { s.bsv with image := e, position := some p, next := (p + 1) % 16 }
  | none => s.setBsv { s.bsv with image := JournalEntry.default, position := none, next := 0 }

/-- R124, R142 step 4: the trial-start accounting, or its passing over. -/
def accountTrial (s : State) : State :=
  if s.bsv.image.boot = .trial ∧ s.ppc.profile ≠ .invalid then trialStart (goTo .accounting s) else goTo .rebuild s

/-- JOURNAL_READ (R116, R124). -/
def execJournalRead (image : List Byte) (s : State) : Host.Outcome State Fault Refusal :=
  .next <|
    if s.sup.step = .journalRead then accountTrial (applyJournal (winningEntry (pulledUp 1024 image)) s) else s

/-! ### The rebuild and the release step (R51 to R54, R77, R143) -/

/-- REBUILD_READ_DONE (R51, R52): the read of a record, or once the log has ended of a sector's kind bytes (R54). -/
def execRebuildReadDone (bytes : List Byte) (s : State) : Host.Outcome State Fault Refusal :=
  .next <|
    if rebuildMayRead s then
      if s.lgp.logEnded then readSector bytes s else rebuildRecordAt bytes s
    else s

/-- REBUILD_COMPLETE (R54, R77): the last sector's kind bytes have been read, or at an append point of 16384 nothing is left
to read; a poll still owed comes first (log 32). -/
def execRebuildComplete (kinds : List Byte) (s : State) : Host.Outcome State Fault Refusal :=
  .next <|
    if rebuildMayRead s && s.lgp.logEnded && decide (lastSector ≤ s.lgp.cursor) &&
        kinds.length == kindBytesLeft s.lgp then
      let s := s.setLgp { s.lgp with clean := Vector.ofFn (sectorFound s.lgp kinds), pollOwed := false }
      goTo .release (settleSet s)
    else s

/-- R93: on entry into RUN with the set in a served state the queue is filled with every coded chunk in set order. -/
def fillQueue (s : State) : State :=
  if served s then
    s.setCkt { s.ckt with queue := (s.ckt.chunks.filter fun c => c.state = .dirty).map Chunk.ref }
  else s

/-- RELEASE_STEP (R143): RUN or DEGRADED, MRST released, the timer, the queue. While RSTIN is asserted no start-up goes on
(R144). -/
def execReleaseStep (s : State) : Host.Outcome State Fault Refusal :=
  .next <|
    if s.sup.step ≠ .release ∨ s.sup.rstin then s
    else
      let s := elapseTo (s.bsv.mrst.getD s.now + 10) s
      let part := if s.ppc.profile = .invalid ∨ s.sup.markDegraded then PartState.degraded else PartState.run
      let s := s.setSup { s.sup with part := part, step := .finished }
      let s := s.setBsv { s.bsv with mrst := none, releaseDue := none }
      let s := if part = .run ∧ s.bsv.image.boot = .trial then startTimer s else stopTimer s
      fillQueue s

end Sys2Proof.Machine
end

