-- ==== Sys2Proof/Machine/Upstream.lean ====
section
/-!
DEFINITION. The Traffic Controller's commands (spec 01, 02): selects and releases, the decision points of every class, the
crossings of reads, and the data bytes of programs.
-/

namespace Sys2Proof.Machine

/-! ### The transaction record -/

/-- A change of the transaction record. -/
def setTxn (t : Txn) (s : State) : State := s.setTrc { s.trc with txn := t }

/-- The open transaction has no disposition yet, and no class either or the class `c` from its command byte (R1, R3). -/
def undecided (t : Txn) (c : CmdClass) : Bool := t.disposition.isNone && (t.cls.isNone || t.cls == some c)

/-- A class may be entered or decided for the open transaction: the part is in RUN or DEGRADED, the transaction is open,
R19 does not ignore it, it is undecided, and R2 gives its command code this class (log 17). -/
def deciding (s : State) (c : CmdClass) (code : Byte) : Bool :=
  awake s && upstreamHolds s && undecided s.trc.txn c && classOf s.settings code == c

/-- R1: at the end of its command byte a transaction of a class that carries an address has its class entered, and its
disposition waits for the third address byte (R3). -/
def enterClass (c : CmdClass) (s : State) : State := setTxn { s.trc.txn with cls := some c } s

/-- R1, R3: class, address and disposition are entered; what reaches the flash stands on the flash port. -/
def decideTxn (c : CmdClass) (a : Option Addr) (d : Disposition) (f : Option FlashTxn) (s : State) : State :=
  s.setTrc { s.trc with
    txn := { s.trc.txn with cls := some c, start := a, running := a, disposition := some d }, flash := f }

/-- A transaction forwarded to the flash with the processor's code, an address if it carries one, and its dummies. -/
def upstreamTxn (s : State) (code : Byte) (a : Option Addr) : FlashTxn :=
  { owner := .upstream, code := code, addr := a, dummies := dummiesOf s.settings code }

/-- A class without an address is forwarded unchanged at the end of its command byte (R5). -/
def forwardPlain (c : CmdClass) (code : Byte) (s : State) : State :=
  if deciding s c code then decideTxn c none .forward (some (upstreamTxn s code none)) s else s

/-! ### Reads (R4, R25, R30 to R35) -/

/-- FILLED_READ with the address of the first filled byte, then OUT_OF_RANGE where its granule is out of range (R24,
R25, R33, R34). -/
def postFilled (a : Addr) (s : State) : State :=
  let s := post .filledRead (detailAddr a) s
  if (lookup s.settings (granuleOf a)).outOfRange then post .outOfRange (detailAddr a) s else s

/-- R25: the disposition of a READ by the effective kind of its start granule. -/
def decideRead (code : Byte) (a : Addr) (s : State) : State :=
  let begin (d : Disposition) (flashAddr : Nat) : State :=
    let s := decideTxn .read (some a) d (some (upstreamTxn s code (some (BitVec.ofNat 24 flashAddr)))) s
    setTxn { s.trc.txn with
      run := some { flashAddr := flashAddr, translated := d == .translate, bootSlot := bootSlot s } } s
  match (lookup s.settings (granuleOf a)).kind with
  | .slot _ | .manifest | .openArea | .locked => begin .forward a.toNat
  | .bootView => begin .translate (translate s.settings (bootSlot s) a)
  | .report =>
    let image := snapshotOf s
    let s := decideTxn .read (some a) .answer none s
    s.setRpu { s.rpu with snapshot := some image }
  | .hidden => postFilled a (decideTxn .read (some a) .fill none s)

/-- A read turns to fill at the first byte of a new granule: FCS is released, and the events of the fill are posted
(R33, R34). -/
def turnToFill (a : Addr) (s : State) : State :=
  let s := setTxn { s.trc.txn with running := some a, disposition := some .fill, run := none } s
  postFilled a (releaseFlash s)

/-- R1, R31: `n` data bytes of a READ have been sent on UDO: the running address has advanced by one with each, modulo
2^24, and the next flash address of a run with it, modulo the flash size. -/
def sendBytes (n : Nat) (s : State) : State :=
  setTxn { s.trc.txn with
    running := s.trc.txn.running.map fun a => BitVec.ofNat 24 (a.toNat + n)
    run := s.trc.txn.run.map fun run => { run with flashAddr := (run.flashAddr + n) % flashSize s.settings } } s

/-- The data bytes from an address to the end of its granule: the next one stands at a crossing (R32, R35). -/
def bytesToCrossing (a : Addr) : Nat := 4096 - a.toNat % 4096

/-- R32, R33: the run of a read, whose running address has come to the first address of a new granule, continues there or
breaks. -/
def continueRun (s : State) : State :=
  match s.trc.txn.run, s.trc.txn.running with
  | some run, some a =>
    if mappedTo s.settings run.bootSlot a = some run.flashAddr then s else turnToFill a s
  | _, _ => s

/-- R34: an answered read, whose running address has come to the first address outside the report window, turns to
fill. -/
def leaveWindow (s : State) : State :=
  match s.trc.txn.running with
  | some a => turnToFill a s
  | none => s

/-- A READ whose running address stands at `a` sends the data bytes up to its granule's end, where the crossing is judged,
or with `within := some n` only `n` of them (log 9). -/
def sendToCrossing (within : Option Nat) (a : Addr) (judge : State → State) (s : State) : State :=
  match within with
  | none => judge (sendBytes (bytesToCrossing a) s)
  | some n => if n < bytesToCrossing a then sendBytes n s else s

/-! ### Permission of programs and erases (R20, R26, R28, R48) -/

/-- R28: a granule of effective kind SLOT with slot number `n` permits a write. -/
def slotWritable (s : State) (n : Slot) : Bool :=
  s.sup.part == .run && s.bsv.image.boot == .stable && n == stagingSlot s &&
    (s.stm.set.map CurrentSet.target == some n) && preparing s.stm.setState

/-- R26: the granule lies inside the own range of a slot whose number its effective kind does not carry. -/
def foreignSlot (st : Settings) (g : Nat) : Bool :=
  let k := (lookup st g).kind
  (insideSlot st .slot0 g && k != .slot .slot0) || (insideSlot st .slot1 g && k != .slot .slot1)

/-- Whether a program at a granule is an append request, put to the Log Parser: its winner is the MANIFEST entry, in RUN
(R6, R26, R38). Inside a slot's own range R26 refuses it and nothing is asked of the Log Parser (log 31). -/
def asksLog (s : State) (g : Nat) : Bool :=
  s.sup.part == .run && (lookup s.settings g).kind == .manifest && !foreignSlot s.settings g

/-- R26, and R20 in DEGRADED: whether a granule permits a write, given the Log Parser's ruling. -/
def permits (s : State) (g : Nat) (log : Bool) : Bool :=
  match s.sup.part with
  | .starting => false
  | .run =>
    !foreignSlot s.settings g &&
      match (lookup s.settings g).kind with
      | .openArea => true
      | .slot n => slotWritable s n
      | .manifest => log
      | .bootView | .report | .locked | .hidden => false
  | .degraded =>
    (lookup s.settings g).kind == .openArea && !insideSlot s.settings .slot0 g && !insideSlot s.settings .slot1 g

/-- Whether a granule permits an erase (R7, R48). -/
def erasePermits (s : State) (g : Nat) : Bool :=
  permits s g (((sectorOf s.settings g).map (sectorErasable s)).getD false)

/-- R8: a suppressed write: SUPPRESSED_WRITE, and cleanup pending is set. -/
def suppressWrite (c : CmdClass) (a : Option Addr) (s : State) : State :=
  let s := decideTxn c a .suppress none s
  let s := post .suppressedWrite (detailWrite c (a.getD 0)) s
  s.setTrc { s.trc with cleanup := true }

/-- OUT_OF_RANGE, where a granule of the transaction is out of range (R24). -/
def postOutOfRange (a : Option Addr) (s : State) : State :=
  match a with
  | some a => post .outOfRange (detailAddr a) s
  | none => s

/-- The event of a refusal by the Log Parser (R38). -/
def postRuling (k : Option EventKind) (a : Addr) (s : State) : State :=
  match k with
  | some k => post k (detailAddr a) s
  | none => s

/-- R40: the end of the 256-byte page that holds an address. -/
def pageEnd (a : Addr) : Nat := (a.toNat / 256 + 1) * 256

/-- R6, R26, R38, R40: the decision point of a PROGRAM. -/
def decideProgram (code : Byte) (a : Addr) (s : State) : State :=
  let g := granuleOf a
  let asks := asksLog s g
  let ruling := if asks then appendRuling s a else none
  if permits s g ruling.isNone then
    let s := decideTxn .program (some a) .forward (some (upstreamTxn s code (some a))) s
    setTxn { s.trc.txn with cut := if asks then some (pageEnd a) else none } s
  else
    let s := postRuling ruling a s
    let s := postOutOfRange (if (lookup s.settings g).outOfRange then some a else none) s
    let s := suppressWrite .program (some a) s
    if ruling = some .logFull then abandonOnFull s else s

/-- The sixteen granules of the 64 KiB block that holds an address (R7). -/
def blockGranules (a : Addr) : List Nat := (List.range 16).map fun i => a.toNat / 65536 * 16 + i

/-- R7: the decision point of an erase of the granules `gs`; `oor` is the address OUT_OF_RANGE reports, if any. -/
def decideErase (c : CmdClass) (code : Byte) (a : Addr) (gs : List Nat) (oor : Option Addr) (s : State) : State :=
  if gs.all (erasePermits s) then decideTxn c (some a) .forward (some (upstreamTxn s code (some a))) s
  else suppressWrite c (some a) (postOutOfRange oor s)

/-- R24: the base of the lowest out-of-range granule of a block. -/
def lowestOutOfRange (st : Settings) (gs : List Nat) : Option Addr :=
  (gs.find? fun g => (lookup st g).outOfRange).map granuleAddr

/-! ### Data bytes (R1, R5 to R8, R39, R40) -/

/-- A byte the processor sends is passed to the flash: it goes out on FDO after those before it (R3, R5 to R7). -/
def sendOn (b : Byte) (s : State) : State :=
  s.setTrc { s.trc with flash := s.trc.flash.map fun f => { f with data := f.data ++ [b] } }

/-- The classes of which every byte after the command or the address is passed on uninterpreted: those forwarded unchanged
(R5), and the sized erases (R7). -/
def passesOn : CmdClass → Bool
  | .statusRead | .writeEnable | .writeDisable | .pass | .erase4k | .erase64k => true
  | .read | .program | .eraseAll | .block => false

/-- Whether a byte the processor sends in the transaction goes to the flash uninterpreted (log 35). -/
def relays (t : Txn) : Bool := t.disposition == some .forward && t.cls.any passesOn

/-- The running address of a PROGRAM after a byte, wrapping within its 256-byte page (R1). -/
def nextInPage (a : Addr) : Addr := BitVec.ofNat 24 (a.toNat / 256 * 256 + (a.toNat + 1) % 256)

/-- The record after a data byte has been received. -/
def byteReceived (t : Txn) (running : Addr) : Txn :=
  { t with received := t.received + 1, running := some (nextInPage running) }

/-- R40: a byte at or beyond the cut boundary is discarded; the first one releases FCS and posts LOG_CUT. -/
def discardCut (boundary : Nat) (running : Addr) (s : State) : State :=
  let first := !s.trc.txn.cutPosted
  let s := releaseFlash (setTxn { byteReceived s.trc.txn running with cutPosted := true } s)
  if first then post .logCut (detailAddr (BitVec.ofNat 24 boundary)) s else s

/-- A byte of a forwarded program is passed to the flash (R6). -/
def passByte (b : Byte) (running : Addr) (s : State) : State :=
  sendOn b (setTxn { byteReceived s.trc.txn running with passed := true } s)

/-- A whole data byte of a PROGRAM whose disposition is decided. -/
def dataByte (b : Byte) (start running : Addr) (d : Disposition) (s : State) : State :=
  match d with
  | .forward =>
    match s.trc.txn.cut with
    | some boundary =>
      if boundary ≤ start.toNat + s.trc.txn.received then discardCut boundary running s
      else takeByte (running.toNat - areaBase s.settings) b (passByte b running s)
    | none => passByte b running s
  | .suppress | .translate | .answer | .fill => setTxn (byteReceived s.trc.txn running) s

/-! ### The end of a transaction (R6, R7, R13, R14) -/

/-- The transaction record is closed, FCS is released and the snapshot is discarded (R1, R151). -/
def closeTxn (s : State) : State :=
  let s := s.setTrc { s.trc with txn := Txn.closed, flash := none }
  s.setRpu { s.rpu with snapshot := none }

/-- R14: a new busy period begins. -/
def startBusy (k : PeriodKind) (a : Addr) (s : State) : State :=
  s.setTrc { s.trc with busy := some { since := s.now, kind := k, addr := a }, stuck := false }

/-- Cleanup pending is cleared (R13). -/
def clearCleanup (s : State) : State := s.setTrc { s.trc with cleanup := false }

/-- R14, R82, R50: the end of a forwarded PROGRAM that passed a whole byte. -/
def endProgram (a : Addr) (s : State) : State :=
  let page := a.toNat / 256 * 256
  noticeLogProgram page (noticeProgram page (startBusy .program a s))

/-- R14, R83, R49: the end of a forwarded erase of the granules `gs`. -/
def endErase (a : Addr) (gs : List Nat) (s : State) : State :=
  noticeLogErase gs (noticeErase gs (startBusy .erase a s))

/-- The effects of the release of UCS on a forwarded transaction of a class. -/
def endForwarded (t : Txn) (s : State) : State :=
  match t.cls, t.start with
  | some .writeEnable, _ => clearCleanup s
  | some .writeDisable, _ => clearCleanup s
  | some .program, some a => if t.passed then endProgram a (clearCleanup s) else clearCleanup s
  | some .erase4k, some a => endErase a [granuleOf a] (clearCleanup s)
  | some .erase64k, some a => endErase a (blockGranules a) (clearCleanup s)
  | _, _ => s

/-! ### The meanings -/

/-- UCS_ASSERTED (R1, R10, R19, R106): the record opens; an internal flash transaction in progress is abandoned, and a
READING Verify Engine keeps its context at word granularity. -/
def execUcsAsserted (s : State) : Host.Outcome State Fault Refusal :=
  .next <|
    if s.trc.txn.isOpen then s
    else if awake s then
      let s := releaseFlash (setTxn { Txn.closed with isOpen := true } s)
      s.setScan (s.scan.map fun c => { c with held := none })
    else setTxn { Txn.closed with isOpen := true, inStarting := true } s

/-- READ (R1, R4, R25). -/
def execRead (code : Byte) (addr : Option Addr) (s : State) : Host.Outcome State Fault Refusal :=
  .next <|
    if deciding s .read code then
      match addr with
      | some a => decideRead code a s
      | none => enterClass .read s
    else s

/-- READ_GRANULE_CROSSING (R31 to R33, R35), or data bytes before it. A filled read goes on with no check (R33). -/
def execReadGranuleCrossing (s : State) (within : Option Nat := none) : Host.Outcome State Fault Refusal :=
  .next <|
    match s.trc.txn.running with
    | some a =>
      if ¬ upstreamHolds s then s
      else if s.trc.txn.run.isSome then sendToCrossing within a continueRun s
      else if s.trc.txn.disposition = some .fill then sendToCrossing within a id s
      else s
    | none => s

/-- REPORT_READ_LEAVES_WINDOW (R34), or data bytes before it. -/
def execReportReadLeavesWindow (s : State) (within : Option Nat := none) : Host.Outcome State Fault Refusal :=
  .next <|
    match s.trc.txn.disposition, s.trc.txn.running with
    | some .answer, some a => if upstreamHolds s then sendToCrossing within a leaveWindow s else s
    | _, _ => s

/-- STATUS_READ (R5). -/
def execStatusRead (code : Byte) (s : State) : Host.Outcome State Fault Refusal := .next (forwardPlain .statusRead code s)

/-- WRITE_ENABLE (R5). -/
def execWriteEnable (code : Byte) (s : State) : Host.Outcome State Fault Refusal := .next (forwardPlain .writeEnable code s)

/-- WRITE_DISABLE (R5). -/
def execWriteDisable (code : Byte) (s : State) : Host.Outcome State Fault Refusal :=
  .next (forwardPlain .writeDisable code s)

/-- PASS (R5). -/
def execPass (code : Byte) (s : State) : Host.Outcome State Fault Refusal := .next (forwardPlain .pass code s)

/-- PROGRAM (R1, R6). -/
def execProgram (code : Byte) (addr : Option Addr) (s : State) : Host.Outcome State Fault Refusal :=
  .next <|
    if deciding s .program code then
      match addr with
      | some a => decideProgram code a s
      | none => enterClass .program s
    else s

/-- ERASE_4K (R1, R7); OUT_OF_RANGE reports its start address (log 11). -/
def execErase4k (code : Byte) (addr : Option Addr) (s : State) : Host.Outcome State Fault Refusal :=
  .next <|
    if deciding s .erase4k code then
      match addr with
      | some a =>
        let oor := if (lookup s.settings (granuleOf a)).outOfRange then some a else none
        decideErase .erase4k code a [granuleOf a] oor s
      | none => enterClass .erase4k s
    else s

/-- ERASE_64K (R1, R7). -/
def execErase64k (code : Byte) (addr : Option Addr) (s : State) : Host.Outcome State Fault Refusal :=
  .next <|
    if deciding s .erase64k code then
      match addr with
      | some a => decideErase .erase64k code a (blockGranules a) (lowestOutOfRange s.settings (blockGranules a)) s
      | none => enterClass .erase64k s
    else s

/-- ERASE_ALL (R7, R8): always suppressed. -/
def execEraseAll (code : Byte) (s : State) : Host.Outcome State Fault Refusal :=
  .next <| if deciding s .eraseAll code then suppressWrite .eraseAll none s else s

/-- BLOCK (R9). -/
def execBlock (code : Byte) (s : State) : Host.Outcome State Fault Refusal :=
  .next <|
    if deciding s .block code then
      post .blockedCommand (detailBytes code 0) (decideTxn .block none .suppress none s)
    else s

/-- PROGRAM_DATA_BYTE (R6, R39, R40); in a forwarded transaction whose bytes go to the flash uninterpreted, one of those
bytes (R5, R7, log 35). -/
def execProgramDataByte (b : Byte) (s : State) : Host.Outcome State Fault Refusal :=
  .next <|
    if ¬ upstreamHolds s then s
    else if relays s.trc.txn then sendOn b s
    else
      match s.trc.txn.cls, s.trc.txn.start, s.trc.txn.running, s.trc.txn.disposition with
      | some .program, some start, some running, some d => dataByte b start running d s
      | _, _, _, _ => s

/-- UCS_RELEASED (R1, R6, R7, R13, R14, R19). -/
def execUcsReleased (s : State) : Host.Outcome State Fault Refusal :=
  .next <|
    if ¬ s.trc.txn.isOpen then s
    else if s.trc.txn.inStarting then setTxn Txn.closed s
    else if s.trc.txn.disposition = some .forward then endForwarded s.trc.txn (closeTxn s)
    else closeTxn s

end Sys2Proof.Machine
end

