-- ==== Sys2Proof/Machine/Dispatch.lean ====
section
/-!
DEFINITION. The meaning of every command: one arm per constructor of Instr, one call of its own meaning per arm.
-/

namespace Sys2Proof.Machine

def exec (i : Instr) (s : State) : Host.Outcome State Fault Refusal :=
  match i with
  | .ucsAsserted => Sys2Proof.Machine.execUcsAsserted s
  | .read code addr => Sys2Proof.Machine.execRead code addr s
  | .readGranuleCrossing within => Sys2Proof.Machine.execReadGranuleCrossing s within
  | .reportReadLeavesWindow within => Sys2Proof.Machine.execReportReadLeavesWindow s within
  | .statusRead code => Sys2Proof.Machine.execStatusRead code s
  | .writeEnable code => Sys2Proof.Machine.execWriteEnable code s
  | .writeDisable code => Sys2Proof.Machine.execWriteDisable code s
  | .pass code => Sys2Proof.Machine.execPass code s
  | .program code addr => Sys2Proof.Machine.execProgram code addr s
  | .erase4k code addr => Sys2Proof.Machine.execErase4k code addr s
  | .erase64k code addr => Sys2Proof.Machine.execErase64k code addr s
  | .eraseAll code => Sys2Proof.Machine.execEraseAll code s
  | .block code => Sys2Proof.Machine.execBlock code s
  | .programDataByte b => Sys2Proof.Machine.execProgramDataByte b s
  | .unknownKind kind r => Sys2Proof.Machine.execUnknownKind kind r s
  | .openRecord r => Sys2Proof.Machine.execOpenRecord r s
  | .componentRecord r => Sys2Proof.Machine.execComponentRecord r s
  | .codesRecord r => Sys2Proof.Machine.execCodesRecord r s
  | .closeRecord r => Sys2Proof.Machine.execCloseRecord r s
  | .commitRecord r => Sys2Proof.Machine.execCommitRecord r s
  | .confirmRecord r => Sys2Proof.Machine.execConfirmRecord r s
  | .abandonRecord r => Sys2Proof.Machine.execAbandonRecord r s
  | .clearRecord r => Sys2Proof.Machine.execClearRecord r s
  | .rescanRecord r => Sys2Proof.Machine.execRescanRecord r s
  | .ucsReleased => Sys2Proof.Machine.execUcsReleased s
  | .writeDisableCleanup => Sys2Proof.Machine.execWriteDisableCleanup s
  | .cleanupComplete => Sys2Proof.Machine.execCleanupComplete s
  | .statusPoll => Sys2Proof.Machine.execStatusPoll s
  | .statusByte b => Sys2Proof.Machine.execStatusByte b s
  | .busyLimitExpiry => Sys2Proof.Machine.execBusyLimitExpiry s
  | .scanStart => Sys2Proof.Machine.execScanStart s
  | .scanResume => Sys2Proof.Machine.execScanResume s
  | .scanWord b => Sys2Proof.Machine.execScanWord b s
  | .scanComplete b => Sys2Proof.Machine.execScanComplete b s
  | .journalPollTimeout => Sys2Proof.Machine.execJournalPollTimeout s
  | .commitEntryLands => Sys2Proof.Machine.execCommitEntryLands s
  | .commitEntryFails reply => Sys2Proof.Machine.execCommitEntryFails reply s
  | .attemptEntryLands => Sys2Proof.Machine.execAttemptEntryLands s
  | .attemptEntryFails reply => Sys2Proof.Machine.execAttemptEntryFails reply s
  | .confirmationEntryLands => Sys2Proof.Machine.execConfirmationEntryLands s
  | .confirmationEntryFails reply => Sys2Proof.Machine.execConfirmationEntryFails reply s
  | .revertEntryLands => Sys2Proof.Machine.execRevertEntryLands s
  | .revertEntryFails reply => Sys2Proof.Machine.execRevertEntryFails reply s
  | .revertRetry => Sys2Proof.Machine.execRevertRetry s
  | .mrstRelease => Sys2Proof.Machine.execMrstRelease s
  | .confirmTimerExpiry => Sys2Proof.Machine.execConfirmTimerExpiry s
  | .powerOn => Sys2Proof.Machine.execPowerOn s
  | .rstinAsserted => Sys2Proof.Machine.execRstinAsserted s
  | .rstinReleased => Sys2Proof.Machine.execRstinReleased s
  | .presenceCheck b => Sys2Proof.Machine.execPresenceCheck b s
  | .presenceTimeout => Sys2Proof.Machine.execPresenceTimeout s
  | .profileLoad image => Sys2Proof.Machine.execProfileLoad image s
  | .journalRead image => Sys2Proof.Machine.execJournalRead image s
  | .rebuildReadDone bytes => Sys2Proof.Machine.execRebuildReadDone bytes s
  | .rebuildComplete kinds => Sys2Proof.Machine.execRebuildComplete kinds s
  | .releaseStep => Sys2Proof.Machine.execReleaseStep s

end Sys2Proof.Machine
end

