-- ==== Sys2Proof/Machine/ProfilePort.lean ====
section
/-!
DEFINITION. The profile port (R118, R133): the four commands of the profile memory, the transactions that the start-up and
the journal writes make on the port, and the bytes each sends.
-/

namespace Sys2Proof.Machine

/-- The commands of the profile memory (R133). -/
inductive ProfileCommand where
  | statusRead | writeEnable | write | read
  deriving DecidableEq, Repr

/-- The code of a command (R133). -/
def profileCommandCode : ProfileCommand → Byte
  | .statusRead => 0x05
  | .writeEnable => 0x06
  | .write => 0x02
  | .read => 0x03

/-- A transaction on the profile port, from the assertion of PCS to its release (R133). -/
structure ProfileTxn where
  command : ProfileCommand
  /-- The profile memory address of a write or a read. -/
  addr : Option Word16
  /-- The data bytes of a write. -/
  data : List Byte
  deriving DecidableEq, Repr

/-- The bytes a transaction sends: its code, its address high byte first, its data (R133). -/
def profileBytes (t : ProfileTxn) : List Byte :=
  profileCommandCode t.command ::
    ((t.addr.map fun a => [a.extractLsb' 8 8, a.extractLsb' 0 8]).getD [] ++ t.data)

/-- A status read, which the memory answers with one byte. -/
def profileStatus : ProfileTxn := { command := .statusRead, addr := none, data := [] }

/-- A read from an address on. -/
def profileRead (a : Word16) : ProfileTxn := { command := .read, addr := some a, data := [] }

/-- The profile memory address of a journal position (section 7.2). -/
def positionAddr (p : Nat) : Word16 := BitVec.ofNat 16 (0x800 + 64 * p)

/-- R118: the transactions of an entry write into a position, one for each of its five steps; that of the fourth is made
again until the memory is not busy or the step fails. -/
def entryWrite (p : Nat) (e : JournalEntry) : List ProfileTxn :=
  [profileStatus, { command := .writeEnable, addr := none, data := [] },
    { command := .write, addr := some (positionAddr p), data := entryBytes e }, profileStatus,
    profileRead (positionAddr p)]

/-- R118: how many of its five steps a write makes, by the step at which it fails. -/
def stepsMade : Option FailStep → Nat
  | some .atOnce => 0
  | some .statusRead => 1
  | some .completionPoll => 4
  | some .readBack | none => 5

/-- R133: the transactions that the work now in hand makes on the profile port, one at a time and in this order: those of
the presence check (R135), the profile load with the memory present (R136), the journal read (R116), or the entry write in
flight (R118). -/
def profilePort (s : State) : List ProfileTxn :=
  match s.sup.step with
  | .presence => [profileStatus]
  | .profileLoad => if s.ppc.presence = .present then [profileRead 0x0000] else []
  | .journalRead => [profileRead 0x0800]
  | .held | .accounting | .rebuild | .release | .finished =>
    match s.bsv.inFlight with
    | some w => if s.bsv.retryWait.isSome then [] else entryWrite s.bsv.next w.entry
    | none => []

/-- PCS is asserted, again for each transaction, while there is work on the port (R133). -/
def pcsAsserted (s : State) : Bool := !(profilePort s).isEmpty

end Sys2Proof.Machine
end

