-- ==== Sys2Proof/Safety.lean ====
section
/-!
DEFINITION. What the statements speak of: the situations in which a command comes (a transaction at its decision point, a
record handed), the permission of writes as the spec words it, and the laws that every step keeps.
-/

namespace Sys2Proof.Machine

/-! ### Situations -/

/-- An upstream transaction is open in RUN or DEGRADED, R2 classes its command code as `c`, and it has no disposition yet,
and no class either or the class `c` from its command byte (R1 to R3). -/
structure AtCommand (s : State) (c : CmdClass) (code : Byte) : Prop where
  awake : s.sup.part ≠ .starting
  opened : s.trc.txn.isOpen = true
  decoded : s.trc.txn.inStarting = false
  undecided : s.trc.txn.disposition = none ∧ (s.trc.txn.cls = none ∨ s.trc.txn.cls = some c)
  classed : classOf s.settings code = c

/-- A forwarded PROGRAM is open, started at `start`, and its next data byte goes to `running` (R1, R6). -/
structure Programming (s : State) (start running : Addr) : Prop where
  opened : s.trc.txn.isOpen = true
  decoded : s.trc.txn.inStarting = false
  cls : s.trc.txn.cls = some .program
  start_eq : s.trc.txn.start = some start
  running_eq : s.trc.txn.running = some running
  forward : s.trc.txn.disposition = some .forward

/-- A live record can be handed: the part is in RUN, and an open transaction, if any, is an append (R47, R56). -/
def Handed (s : State) : Prop := s.sup.part = .run ∧ (s.trc.txn.isOpen = false ∨ s.trc.txn.cut ≠ none)

/-- The command that a whole record with this kind byte is (R46, R47). -/
def recordRow (kind : Byte) (r : Record) : Instr :=
  match recordKindOf kind with
  | some .openSet => .openRecord r
  | some .component => .componentRecord r
  | some .codes => .codesRecord r
  | some .close => .closeRecord r
  | some .commit => .commitRecord r
  | some .confirm => .confirmRecord r
  | some .abandon => .abandonRecord r
  | some .clear => .clearRecord r
  | some .rescan => .rescanRecord r
  | none => .unknownKind kind r

/-- A COMPONENT, CODES or CLOSE record passes the gate of R59 for the current set `cs`. -/
structure PassesGate (s : State) (r : Record) (cs : CurrentSet) : Prop where
  handed : Handed s
  set_eq : s.stm.set = some cs
  receiving : s.stm.setState = .receiving
  seq_eq : r.seq = cs.seq

/-! ### Permission of writes (R20, R26, R28, R48) -/

/-- R28: a granule of slot `n` may be written. -/
def SlotOpen (s : State) (n : Slot) : Prop :=
  s.bsv.image.boot = .stable ∧ n ≠ s.bsv.image.committed ∧
    (∃ cs, s.stm.set = some cs ∧ cs.target = n) ∧
    (s.stm.setState = .receiving ∨ s.stm.setState = .closed ∨ s.stm.setState = .ready)

/-- R48: the Log Parser permits the erase of the sector that a granule forms. -/
def SectorOpen (s : State) (g : Nat) : Prop :=
  ∃ k, sectorOf s.settings g = some k ∧ s.bsv.image.boot = .stable ∧
    (s.stm.setState = .idle ∨ s.stm.setState = .installed ∨ s.stm.setState = .reverted ∨
      s.stm.setState = .abandoned ∨ s.stm.setState = .rejected) ∧
    (k.val = 0 ∨ s.lgp.appendPoint ≤ k.val * 4096)

/-- R26 in RUN and R20 in DEGRADED: the granule permits a write; `log` is the Log Parser's ruling. -/
def GranuleWritable (s : State) (g : Nat) (log : Prop) : Prop :=
  (s.sup.part = .run ∧
    (∀ n, insideSlot s.settings n g = true → (lookup s.settings g).kind = .slot n) ∧
    ((lookup s.settings g).kind = .openArea ∨
      (∃ n, (lookup s.settings g).kind = .slot n ∧ SlotOpen s n) ∨
      ((lookup s.settings g).kind = .manifest ∧ log))) ∨
  (s.sup.part = .degraded ∧ (lookup s.settings g).kind = .openArea ∧
    ∀ n, insideSlot s.settings n g = false)

/-- A program at `a` is an append request that the Log Parser rules on (R26, R38): one inside a slot's own range is none
(log 31). -/
def IsAppendRequest (s : State) (a : Addr) : Prop :=
  s.sup.part = .run ∧ (lookup s.settings (granuleOf a)).kind = .manifest ∧
    ∀ n, insideSlot s.settings n (granuleOf a) = false

/-! ### Expected effects -/

/-- The image shows these bytes at an offset. -/
def ShowsAt (image : List Byte) (offset : Nat) (bytes : List Byte) : Prop :=
  (image.drop offset).take bytes.length = bytes

/-- The `n` bytes of a number, low byte first. -/
def lowFirst (n v : Nat) : List Byte := (List.range n).map fun i => BitVec.ofNat 8 (v / 256 ^ i)

/-- The outcome in which the record is refused and nothing else changes (R56); the codes are those of R162. -/
def refusedRecord (kind : Byte) (reason : RefuseReason) (r : Record) (s : State) : Host.Outcome State Fault Refusal :=
  .next { s with rpu := s.rpu.post .recordRefused r.seq (detailBytes kind (byteOf (refuseCode reason))) }

/-- The journal image with its generation raised by 1 and its empty pairs written as R160 says. -/
def freshEntry (e : JournalEntry) : JournalEntry :=
  { e with generation := e.generation + 1, pairs := e.pairs.map writtenPair }

/-- The Boot Supervisor with a write of `entry` in flight since now (R117). -/
def writing (s : State) (kind : EntryKind) (entry : JournalEntry) : Bsv :=
  { s.bsv with inFlight := some { kind := kind, entry := entry, since := s.now }, retryWait := none }

/-- The Boot Supervisor after `entry` has landed (R118). -/
def landed (b : Bsv) (entry : JournalEntry) : Bsv :=
  { b with image := entry, position := some b.next, next := (b.next + 1) % 16, inFlight := none, retryWait := none }

/-- R130: the entry a revert of this journal image writes. -/
def revertOf (e : JournalEntry) : JournalEntry :=
  { freshEntry e with boot := .stable, lastReverted := e.trialSeq, attempts := 0 }

/-- The Boot Supervisor once a revert has begun at generation FFFFFFFEh and its write has failed at once (R117, R130,
R131): out of STARTING the write waits for its retry under the demand, in STARTING both are dropped. -/
def revertSpent (s : State) (demand : Option RevertReason) : Bsv :=
  if s.sup.part = .starting then
    { s.bsv with inFlight := none, retryWait := none, demand := none, confirmTimer := none,
                 mrst := some (s.bsv.mrst.getD s.now), releaseDue := none }
  else
    { s.bsv with inFlight := some { kind := .revert, entry := revertOf s.bsv.image, since := s.now },
                 retryWait := some s.now, demand := demand, confirmTimer := none,
                 mrst := some (s.bsv.mrst.getD s.now), releaseDue := none }

/-- The start-up after a revert write has failed (R131): in STARTING it goes on to the rebuild, marked for DEGRADED. -/
def supSpent (s : State) : Sup :=
  if s.sup.part = .starting then { s.sup with markDegraded := true, step := .rebuild } else s.sup

/-- A write of `entry` is in flight, begun at `since`, and waits for no retry. -/
def InFlight (s : State) (kind : EntryKind) (entry : JournalEntry) : Prop :=
  s.bsv.retryWait = none ∧ ∃ since, s.bsv.inFlight = some { kind := kind, entry := entry, since := since }

/-- R118: the step that a reply of the profile memory shows to have failed, for the bytes sent. -/
def FailsAt (sent : List Byte) (p : PortReply) (step : FailStep) : Prop :=
  (p.status.getLsbD 0 = true ∧ step = .statusRead) ∨
  (p.status.getLsbD 0 = false ∧ p.completed = false ∧ step = .completionPoll) ∨
  (p.status.getLsbD 0 = false ∧ p.completed = true ∧ p.readBack ≠ sent ∧ step = .readBack)

/-! ### The laws -/

/-- The ninth law (R147, R148): at most 32 entries, repeat counts of 1 to 255, and no two adjacent entries of equal kind
and detail. -/
def EventListLaw (s : State) : Prop :=
  s.rpu.events.length ≤ 32 ∧ (∀ e ∈ s.rpu.events, 1 ≤ e.count ∧ e.count ≤ 255) ∧
    s.rpu.events.IsChain fun d e => ¬ (d.kind = e.kind ∧ d.detail = e.detail)

/-- Both lanes are below the modulus. -/
def Lanes.inRange (l : Lanes) : Prop := l.a < 65521 ∧ l.b < 65521

/-- The seventh law (R94, R102) for the running digest and the scan context, with what seeds the latter: chunk indexes
are below 1024 (R61, R78). -/
structure LanesLaw (s : State) : Prop where
  digest : ∀ l, s.stm.digest = some l → l.inRange
  scan : ∀ c, s.scan = some c → c.lanes.inRange
  chunks : ∀ c ∈ s.ckt.chunks, c.ref.chunk < 1024
  queued : ∀ r ∈ s.ckt.queue, r.chunk < 1024

/-- The first and the second law (R85, R91) with what they rest on: a start-up is under way exactly in STARTING, RSTIN is
asserted in STARTING alone, every chunk has its own reference and a declared component, a scan context exists only while
the queue is served. -/
structure QueueScanLaw (s : State) : Prop where
  starting : s.sup.part = .starting ↔ s.sup.step ≠ .finished
  held : s.sup.rstin = true → s.sup.part = .starting
  components : ∀ cs, s.stm.set = some cs → cs.compCount ≤ 8
  refs : (s.ckt.chunks.map Chunk.ref).Nodup
  declared : ∀ c ∈ s.ckt.chunks, (componentAt s c.ref.comp).isSome = true
  queueOnce : s.ckt.queue.Nodup
  queueServed : served s = true → ∀ r, r ∈ s.ckt.queue ↔ ∃ c ∈ s.ckt.chunks, c.ref = r ∧ c.state = .dirty
  queueElse : served s = false → s.ckt.queue = []
  scanning : ∀ c ∈ s.ckt.chunks, c.state = .scanning ↔ s.scan.map ScanContext.ref = some c.ref
  scanned : ∀ x, s.scan = some x → served s = true ∧ ∃ c ∈ s.ckt.chunks, c.ref = x.ref

/-- What the fourth law rests on (R31, R47, R67 to R69): a closed record has no disposition and no cut; a run belongs to a
READ forwarded or translated, which has no cut; an append is a forwarded PROGRAM in the MANIFEST entry; and while the set is READY or COMMITTING every chunk is GOOD, the COMMITTING set's open
transaction being no write into its slot. -/
structure ReadyLaw (s : State) : Prop where
  tracker : QueueScanLaw s
  closedTxn : s.trc.txn.isOpen = false → s.trc.txn.disposition = none ∧ s.trc.txn.cut = none
  startUp : s.sup.part = .starting → s.trc.txn.disposition = none ∧ s.trc.txn.cut = none
  run : s.trc.txn.run ≠ none → s.trc.txn.cls = some .read ∧
    (s.trc.txn.disposition = some .forward ∨ s.trc.txn.disposition = some .translate) ∧ s.trc.txn.cut = none
  append : s.trc.txn.cut ≠ none → s.trc.txn.cls = some .program ∧ s.trc.txn.disposition = some .forward ∧
    ∃ a, s.trc.txn.start = some a ∧ (lookup s.settings (granuleOf a)).kind = .manifest
  allGood : s.stm.setState = .ready ∨ s.stm.setState = .committing → ∀ c ∈ s.ckt.chunks, c.state = .good
  noWrite : s.stm.setState = .committing → s.trc.txn.disposition = some .forward → ∀ a, s.trc.txn.start = some a →
    (s.trc.txn.cls = some .program ∨ s.trc.txn.cls = some .erase4k → takesGranule s (granuleOf a) = false) ∧
    (s.trc.txn.cls = some .erase64k → ∀ g ∈ blockGranules a, takesGranule s g = false)

/-- The part of an event that R147 compares. -/
def Event.key (e : Event) : EventKind × Word32 := (e.kind, e.detail)

/-- A chunk after a program notice that touches it (R82). -/
def afterProgram (c : Chunk) : Chunk :=
  { c with written := true, state := if c.state = .uncoded then .uncoded else .dirty }

/-- A chunk after an erase notice that touches it (R83). -/
def afterErase (c : Chunk) : Chunk := { c with state := if c.state = .uncoded then .uncoded else .erased }

/-- A chunk after a rescan request for it (R90). -/
def afterRescan (c : Chunk) : Chunk :=
  { c with state := if c.state = .erased ∨ c.state = .good ∨ c.state = .bad then .dirty else c.state }

end Sys2Proof.Machine
end

