-- ==== Sys2Proof/Certificates/Slice0/Obligations.lean ====
section
/-!
DEFINITION. The statements for the provers, family by family in the table's order; a next state is written out as an
update of the state before, so that what it does not name is unchanged.
-/

open Sys2Proof Sys2Proof.Machine

/-! ### The step, and power-on -/

/-- A step takes the command at the front of the queue and runs it with the queue's rest (the model's choice, log 22); on
an empty queue one millisecond passes (the model's choice, log 2): the clock rises by 1 and a running confirm timer falls
by 1. -/
def Obligations.StepRunsTheFrontCommand : Prop :=
  (∀ (s : State) (c : Instr) (rest : List Instr), s.pending = c :: rest → step s = exec c { s with pending := rest }) ∧
  (∀ s : State, s.pending = [] →
    step s = .next { s with
      now := s.now + 1, bsv := { s.bsv with confirmTimer := s.bsv.confirmTimer.map fun rest => rest - 1 } })

/-- POWER_ON leaves the start values of R1, R36, R55, R78, R102, R114, R134, R141 and R145, whatever the part held: among
them the default journal and the sources SET_READY and TRIAL of ST0 and ST1; the restart cause becomes START where the
sequence begins and stays NONE while RSTIN is asserted. The kept queue (log 22), the settings of Settings.start between
the start-up's beginning and its profile load (log 4), the running clock MRST counts from (log 2) and the kept counter of
free values (log 10) are the model's choices. -/
def Obligations.PowerOnGivesStartValues : Prop :=
  ∀ s : State, exec .powerOn s = .next {
    pending := s.pending, now := s.now, freeDraws := s.freeDraws
    trc := {
      txn := { isOpen := false, cls := none, start := none, running := none, disposition := none, inStarting := false,
               received := 0, passed := false, cut := none, cutPosted := false, run := none }
      flash := none, busy := none, stuck := false, cleanup := false }
    settings := { Settings.start with st0 := .setReady, st1 := .trial }
    lgp := { appendPoint := 0, clean := Vector.replicate 4 false, buffer := [], phase := .awaitingHeader, cursor := 0,
             logEnded := false, pollOwed := false }
    stm := { setState := .idle, set := none, comps := Vector.replicate 8 none, accepted := 0, digest := none,
             reason := none, mismatchTotal := 0, logHigh := 0 }
    ckt := { chunks := [], queue := [] }
    scan := none
    bsv := {
      image := { generation := 0, boot := .stable, committed := .slot0, trial := .slot0, attempts := 0,
                 committedSeq := 0, trialSeq := 0, lastReverted := 0
                 pairs := Vector.replicate 8 { ident := 0xFFFF#16, version := 0xFFFFFFFF#32 } }
      position := none, next := 0, inFlight := none, retryWait := none, demand := none, confirmTimer := none
      mrst := some s.now, releaseDue := none, confirmTaken := false
      restart := if s.sup.rstin then .none else .start }
    ppc := { presence := .unknown, profile := .unknown, invalid := none, pollSince := none }
    sup := { part := .starting, step := if s.sup.rstin then .held else .presence, markDegraded := false
             rstin := s.sup.rstin }
    rpu := { events := [], overflow := false, snapshot := none } }

/-- A line reset (R141, R157): from the assertion of RSTIN on, every block has its start values, while the event list,
the overflow flag and the restart cause are kept and LINE_RESET is posted with the part state that held; the release
begins the sequence and turns NONE to START. The settings until the profile load (log 4), the earlier time of an MRST
that was asserted (log 18) and the kept queue (log 22) are the model's. -/
def Obligations.LineResetKeepsEventsAndCause : Prop :=
  (∀ s : State, s.sup.rstin = false →
    exec .rstinAsserted s = .next { State.reset with
      pending := s.pending, now := s.now, freeDraws := s.freeDraws
      bsv := Bsv.start (s.bsv.mrst.getD s.now) s.bsv.restart
      sup := { part := .starting, step := .held, markDegraded := false, rstin := true }
      rpu := { s.rpu with snapshot := none }.post .lineReset 0 (detailBytes (byteOf (partCode s.sup.part)) 0) }) ∧
  (∀ s : State, s.sup.rstin = true →
    exec .rstinReleased s = .next { s with
      sup := { s.sup with rstin := false, step := .presence }
      bsv := { s.bsv with restart := if s.bsv.restart = .none then .start else s.bsv.restart } })

/-! ### Codes (spec 06) -/

/-- R94: the lane step, its range, the carrying of lanes from one part of a computation to the next, and so both halves
of every computed code below 65521. -/
def Obligations.LaneStepRule : Prop :=
  (∀ (l : Lanes) (w : Nat), (laneStep l w).a = (l.a + w) % 65521 ∧
    (laneStep l w).b = (l.b + (laneStep l w).a) % 65521 ∧ (laneStep l w).inRange) ∧
  (∀ (l : Lanes) (ws : List Nat), l.inRange → (laneFold l ws).inRange) ∧
  (∀ (l : Lanes) (ws vs : List Nat), laneFold l (ws ++ vs) = laneFold (laneFold l ws) vs) ∧
  (∀ (l : Lanes) (ws : List Nat), l.inRange →
    (code32 (laneFold l ws)).toNat % 65536 < 65521 ∧ (code32 (laneFold l ws)).toNat / 65536 < 65521)

/-- R95: words from bytes, low byte first, an odd last byte with FFh as its high byte, ⌈n / 2⌉ words; and the two result
forms. -/
def Obligations.BytesPairIntoWords : Prop :=
  (∀ (x y : Byte) (rest : List Byte), wordsOf (x :: y :: rest) = (x.toNat + 256 * y.toNat) :: wordsOf rest) ∧
  (∀ x : Byte, wordsOf [x] = [x.toNat + 256 * 255]) ∧
  (∀ bs : List Byte, (wordsOf bs).length = (bs.length + 1) / 2) ∧
  (∀ bs cs : List Byte, bs.length % 2 = 0 → wordsOf (bs ++ cs) = wordsOf bs ++ wordsOf cs) ∧
  (∀ l : Lanes, l.inRange → (code32 l).toNat = l.b * 65536 + l.a ∧ (check16 l).toNat = (l.a + l.b) % 65536)

/-! ### Region map (spec 02) -/

/-- R23, R24: the winner is the entry of lowest position that covers the granule; an uncovered granule is LOCKED below
the flash size and HIDDEN out of range above it, as is an OPEN or LOCKED winner there; every other winner keeps its
kind. -/
def Obligations.LookupFindsLowestPosition : Prop :=
  ∀ (st : Settings) (g : Nat),
    (∀ r, winner st g = some r ↔ ∃ i : Nat, st.regions.toList[i]? = some (some r) ∧
      r.base.toNat ≤ g ∧ g ≤ r.limit.toNat ∧
      ∀ j < i, ∀ q, st.regions.toList[j]? = some (some q) → ¬ (q.base.toNat ≤ g ∧ g ≤ q.limit.toNat)) ∧
    (winner st g = none → g < flashGranules st → lookup st g = { kind := .locked, outOfRange := false }) ∧
    (winner st g = none → flashGranules st ≤ g → lookup st g = { kind := .hidden, outOfRange := true }) ∧
    (∀ r, winner st g = some r → (r.kind = .openArea ∨ r.kind = .locked) → flashGranules st ≤ g →
      lookup st g = { kind := .hidden, outOfRange := true }) ∧
    (∀ r, winner st g = some r → ((r.kind ≠ .openArea ∧ r.kind ≠ .locked) ∨ g < flashGranules st) →
      lookup st g = { kind := r.kind, outOfRange := false })

/-- The third law (R28): no program and no erase is forwarded into the slot the boot view serves, and none into either
slot while the boot state is TRIAL. -/
def Obligations.NoWriteForwardedIntoBootSlot : Prop :=
  ∀ (s t : State) (code : Byte) (a : Addr), s.trc.txn.disposition ≠ some .forward →
    t.trc.txn.disposition = some .forward →
    ∀ gs : List Nat,
      ((exec (.program code (some a)) s = .next t ∧ gs = [granuleOf a]) ∨
        (exec (.erase4k code (some a)) s = .next t ∧ gs = [granuleOf a]) ∨
        (exec (.erase64k code (some a)) s = .next t ∧ gs = blockGranules a)) →
      ∀ g ∈ gs, insideSlot s.settings (bootSlot s) g = false ∧
        (s.bsv.image.boot = .trial → ∀ n, insideSlot s.settings n g = false)

/-! ### Selects, classes, reads (spec 01, 02) -/

/-- R10, R19, R106: a select in RUN or DEGRADED opens the record, takes the port from any internal transaction, and
leaves a scan with its context less a held byte; in STARTING it opens a record that every later command of the
transaction passes over. -/
def Obligations.SelectTakesThePort : Prop :=
  (∀ s : State, s.trc.txn.isOpen = false → s.sup.part ≠ .starting →
    exec .ucsAsserted s = .next { s with
      trc := { s.trc with txn := { Txn.closed with isOpen := true }, flash := none }
      scan := s.scan.map fun c => { c with held := none } }) ∧
  (∀ s : State, s.trc.txn.isOpen = false → s.sup.part = .starting →
    exec .ucsAsserted s = .next { s with
      trc := { s.trc with txn := { Txn.closed with isOpen := true, inStarting := true } } }) ∧
  (∀ (s : State) (code b : Byte) (a : Option Addr) (w : Option Nat), s.trc.txn.isOpen = true →
    s.trc.txn.inStarting = true →
    (∀ i ∈ [Instr.read code a, .readGranuleCrossing w, .reportReadLeavesWindow w, .statusRead code, .writeEnable code,
        .writeDisable code, .pass code, .program code a, .erase4k code a, .erase64k code a, .eraseAll code, .block code,
        .programDataByte b], exec i s = .next s) ∧
    exec .ucsReleased s = .next { s with trc := { s.trc with txn := Txn.closed } })

/-- R5: STATUS_READ, WRITE_ENABLE, WRITE_DISABLE and PASS are forwarded unchanged at the end of their command byte, the
first with its entry's dummy bytes. R1, R3: at that byte a class that carries an address is entered, and nothing else
happens until the address is complete. -/
def Obligations.PlainClassesAreForwarded : Prop :=
  ∀ (s : State) (code : Byte) (c : CmdClass) (i : Instr), AtCommand s c code →
    ((c, i) ∈ [(CmdClass.read, Instr.read code none), (.program, .program code none), (.erase4k, .erase4k code none),
      (.erase64k, .erase64k code none)] →
    exec i s = .next { s with trc := { s.trc with txn := { s.trc.txn with cls := some c } } }) ∧
    ((c, i) ∈ [(CmdClass.statusRead, Instr.statusRead code), (.writeEnable, .writeEnable code),
      (.writeDisable, .writeDisable code), (.pass, .pass code)] →
    exec i s = .next { s with trc := { s.trc with
      txn := { s.trc.txn with cls := some c, start := none, running := none, disposition := some .forward }
      flash := some { owner := .upstream, code := code, addr := none,
                      dummies := if c = .statusRead then dummiesOf s.settings code else 0 } } })

/-- R9: a BLOCK command posts BLOCKED_COMMAND with its code and reaches nothing: UDO carries FFh, data bytes are
discarded, and its end leaves cleanup pending and FLASH_BUSY as they stood (the recorded disposition suppress, which
R9 does not name: log 12); 01h is BLOCK in the built-in table, and so is every code it does not list under the policy
BLOCK. -/
def Obligations.BlockIsNotForwarded : Prop :=
  (∀ (s : State) (code : Byte), AtCommand s .block code →
    ∃ t, exec (.block code) s = .next t ∧
      t = { s with
        trc := { s.trc with
          txn := { s.trc.txn with cls := some .block, start := none, running := none, disposition := some .suppress }
          flash := none }
        rpu := s.rpu.post .blockedCommand (defaultSeq s) (detailBytes code 0) } ∧
      (∀ fdi, udo t fdi = 0xFF#8) ∧ (∀ b, exec (.programDataByte b) t = .next t) ∧
      exec .ucsReleased t = .next { t with
        trc := { t.trc with txn := Txn.closed, flash := none }, rpu := { t.rpu with snapshot := none } }) ∧
  (∀ st : Settings, st.commands = builtInCommands → classOf st 0x01#8 = .block ∧
    (st.policy = .block → ∀ code : Byte, (∀ e, some e ∈ st.commands.toList → e.code ≠ code) → classOf st code = .block))

/-- R25, R30, R31: a READ in a SLOT, MANIFEST, OPEN or LOCKED granule is forwarded at its own address; one in the boot
view is sent to the boot slot's base plus its offset in the view; either begins a run with the captured boot slot. R3,
R4: UDO carries FFh through the dummy bytes and then what the flash returns. -/
def Obligations.ReadsThatReachTheFlash : Prop :=
  ∀ (s : State) (code : Byte) (a : Addr), AtCommand s .read code →
    ∀ (d : Disposition) (f : Nat),
      ((((∃ n, (lookup s.settings (granuleOf a)).kind = .slot n) ∨
          (lookup s.settings (granuleOf a)).kind = .manifest ∨ (lookup s.settings (granuleOf a)).kind = .openArea ∨
          (lookup s.settings (granuleOf a)).kind = .locked) ∧ d = .forward ∧ f = a.toNat) ∨
        ((lookup s.settings (granuleOf a)).kind = .bootView ∧ d = .translate ∧
          f = slotBase s.settings (bootSlot s) + (a.toNat - baseOf s.settings .bootView))) →
      ∃ t, exec (.read code (some a)) s = .next t ∧
        t = { s with trc := { s.trc with
          txn := { s.trc.txn with
            cls := some .read, start := some a, running := some a, disposition := some d
            run := some { flashAddr := f, translated := d == .translate, bootSlot := bootSlot s } }
          flash := some { owner := .upstream, code := code, addr := some (BitVec.ofNat 24 f),
                          dummies := dummiesOf s.settings code } } } ∧
        ∀ n fdi, udoAt t code n fdi = if n < 4 + dummiesOf s.settings code then 0xFF#8 else fdi

/-- R25, R24, R151: a READ in the report window is answered from a snapshot frozen now; one in a HIDDEN granule is
filled, with FILLED_READ and, out of range, OUT_OF_RANGE. Neither reaches the flash. R3: UDO carries FFh through the
dummy bytes, and to the end where the read is filled. -/
def Obligations.ReadsAnsweredOrFilled : Prop :=
  ∀ (s : State) (code : Byte) (a : Addr), AtCommand s .read code →
    ((lookup s.settings (granuleOf a)).kind = .report →
      ∃ t, exec (.read code (some a)) s = .next t ∧
        t = { s with
          trc := { s.trc with
            txn := { s.trc.txn with
              cls := some .read, start := some a, running := some a, disposition := some .answer }
            flash := none }
          rpu := { s.rpu with snapshot := some (snapshotOf s) } } ∧
        (∀ fdi, udo t fdi = (snapshotOf s).getD (a.toNat - baseOf s.settings .report) 0xFF#8) ∧
        ∀ n fdi, udoAt t code n fdi = if n < 4 + dummiesOf s.settings code then 0xFF#8 else udo t fdi) ∧
    ((lookup s.settings (granuleOf a)).kind = .hidden →
      ∃ t, exec (.read code (some a)) s = .next t ∧
        t = { s with
          trc := { s.trc with
            txn := { s.trc.txn with
              cls := some .read, start := some a, running := some a, disposition := some .fill }
            flash := none }
          rpu :=
            if (lookup s.settings (granuleOf a)).outOfRange then
              (s.rpu.post .filledRead (defaultSeq s) (detailAddr a)).post .outOfRange (defaultSeq s) (detailAddr a)
            else s.rpu.post .filledRead (defaultSeq s) (detailAddr a) } ∧
        ∀ n fdi, udoAt t code n fdi = 0xFF#8)

/-- R152, R161, R162: the snapshot is a complete 4 KiB image whatever the state holds: every field of the header, the
boot section, the committed pairs, the component table, the settings, the region and command tables, the BAD-chunk list,
the event list and the chunk state map at its offset and in its coding, with its absent value where it has none, and FFh
elsewhere. The codes of the states, reasons, kinds and sources are those of R159 to R162, and the event classes those of
R150. (The slot number of a region position that is no SLOT entry reads 0: log 30.) -/
def Obligations.SnapshotIsWhole : Prop :=
  ([PartState.starting, .run, .degraded].map partCode = [0, 1, 2] ∧
    [ProfileState.unknown, .loaded, .default, .invalid].map profileCode = [0, 1, 2, 3] ∧
    [SetState.idle, .receiving, .closed, .ready, .committing, .trial, .installed, .reverted, .abandoned,
      .rejected].map setStateCode = [0, 1, 2, 3, 4, 5, 6, 7, 8, 9] ∧
    [BootState.stable, .trial].map bootCode = [0, 1] ∧
    [VenState.idle, .waiting, .reading, .paused].map venCode = [0, 1, 2, 3] ∧
    [RejectReason.malformed, .extent, .rollback, .codeRange, .codeConflict, .componentCode, .closeCount, .closeDigest,
      .incomplete, .mismatches].map rejectCode = [1, 2, 3, 4, 5, 6, 7, 8, 9, 10] ∧
    [Slot.slot0, .slot1].map slotCode = [0, 1] ∧
    [EntryKind.commit, .attempt, .confirmation, .revert].map entryKindCode = [1, 2, 3, 4] ∧
    [RevertReason.attempts, .abandoned, .damaged].map revertCode = [1, 2, 3] ∧
    [RestartCause.none, .start, .commit, .trialTimeout, .revert].map restartCode = [0, 1, 2, 3, 4] ∧
    [Presence.unknown, .present, .absent].map presenceCode = [0, 1, 2] ∧
    [InvalidReason.format, .length, .check, .entry, .commands, .regions].map invalidCode = [1, 2, 3, 4, 5, 6] ∧
    [Policy.block, .pass].map policyCode = [0, 1] ∧
    [LineSource.const0, .const1, .setReady, .trial, .bootSlot, .scanning, .degraded, .alert, .flashBusy].map
      lineSourceCode = [0, 1, 2, 3, 4, 5, 6, 7, 8] ∧
    [RegionKind.slot .slot0, .slot .slot1, .bootView, .manifest, .report, .openArea, .locked, .hidden].map
      regionKindCode = [1, 1, 2, 3, 4, 5, 6, 7] ∧
    [CmdClass.read, .statusRead, .writeEnable, .writeDisable, .program, .erase4k, .erase64k, .eraseAll, .pass,
      .block].map cmdClassCode = [1, 2, 3, 4, 5, 6, 7, 8, 9, 10] ∧
    [ChunkState.uncoded, .erased, .dirty, .scanning, .good, .bad].map chunkStateCode = [0, 1, 2, 3, 4, 5] ∧
    [EventKind.suppressedWrite, .blockedCommand, .logOutOfOrder, .logNotErased, .logFull, .logCut, .setRejected,
      .healthBad, .journalFailed, .trialTimeout, .trialReverted, .flashStuck, .profileInvalid, .noStore].map
      (fun k => (eventCode k, attention k)) = [(0x01, true), (0x02, true), (0x03, true), (0x04, true), (0x05, true),
      (0x06, true), (0x07, true), (0x08, true), (0x09, true), (0x0A, true), (0x0B, true), (0x0C, true), (0x0D, true),
      (0x0E, true)] ∧
    [EventKind.filledRead, .outOfRange, .recordTorn, .recordRefused, .setReady, .chunkBad, .commitDone, .confirmed,
      .lineReset, .profileDefault].map (fun k => (eventCode k, attention k)) = [(0x0F, false), (0x10, false),
      (0x11, false), (0x12, false), (0x13, false), (0x14, false), (0x15, false), (0x16, false), (0x17, false),
      (0x18, false)]) ∧
  ∀ (s : State) (image : List Byte), image = snapshotOf s →
    let b (n : Nat) : Byte := BitVec.ofNat 8 n
    let shows (offset : Nat) (bytes : List Byte) : Prop := ShowsAt image offset bytes
    let count (st : ChunkState) : Nat := (s.ckt.chunks.filter fun c => c.state = st).length
    let bad : List Chunk := s.ckt.chunks.filter fun c => c.state = .bad
    let pair (p : Pair) : List Byte := lowFirst 2 p.ident.toNat ++ lowFirst 4 p.version.toNat
    let e := s.bsv.image
    image.length = 4096 ∧
    shows 0x000 [b (partCode s.sup.part), b (profileCode s.ppc.profile), b (setStateCode s.stm.setState),
      b (bootCode e.boot), b (venCode (venState s)), ((s.stm.reason.map fun x => b (rejectCode x)).getD 0xFF)] ∧
    (∃ f, image[0x006]? = some f ∧ f.getLsbD 0 = s.rpu.overflow ∧ f.getLsbD 1 = s.trc.busy.isSome ∧
      f.getLsbD 2 = s.trc.stuck ∧ f.getLsbD 3 = alertAsserted s ∧ ∀ i ≥ 4, f.getLsbD i = false) ∧
    (∃ f, image[0x007]? = some f ∧ (∀ k : Fin 4, f.getLsbD k.val = true ↔
      s.lgp.clean[k] = true ∨ (k.val + 1) * 4096 ≤ s.lgp.appendPoint) ∧ ∀ i ≥ 4, f.getLsbD i = false) ∧
    (s.stm.set = none → shows 0x008 [0x00, 0x00, 0xFF, 0xFF, 0xFF, 0xFF]) ∧
    (∀ cs, s.stm.set = some cs → shows 0x008 (lowFirst 2 cs.seq.toNat ++
      [b (slotCode cs.target), b cs.chunkExp, b cs.attempts, b cs.compCount])) ∧
    shows 0x00E (lowFirst 2 s.stm.accepted ++ lowFirst 2 s.lgp.appendPoint ++ lowFirst 2 s.stm.mismatchTotal ++
      lowFirst 2 s.ckt.queue.length) ∧
    (s.scan = none → shows 0x016 (List.replicate 6 0xFF)) ∧
    (∀ x, s.scan = some x → shows 0x016 ([b x.ref.comp, 0xFF] ++ lowFirst 2 x.ref.chunk ++ lowFirst 2 x.offset)) ∧
    shows 0x01C (lowFirst 2 (count .uncoded) ++ lowFirst 2 (count .erased) ++ lowFirst 2 (count .dirty) ++
      lowFirst 2 (count .scanning) ++ lowFirst 2 (count .good) ++ lowFirst 2 (count .bad)) ∧
    shows 0x028 (List.replicate 24 0xFF) ∧
    shows 0x040 (lowFirst 4 e.generation.toNat ++
      [b (bootCode e.boot), b (slotCode e.committed), b (slotCode e.trial), b e.attempts] ++
      lowFirst 2 e.committedSeq.toNat ++ lowFirst 2 e.trialSeq.toNat ++ lowFirst 2 e.lastReverted.toNat ++
      [(s.bsv.position.map b).getD 0xFF, b s.bsv.next,
        b ((s.bsv.inFlight.map fun w => entryKindCode w.kind).getD 0), b ((s.bsv.demand.map revertCode).getD 0),
        b (if s.bsv.confirmTimer = none then 0 else 1), b (restartCode s.bsv.restart)] ++
      lowFirst 4 (s.bsv.confirmTimer.getD 0xFFFFFFFF)) ∧
    shows 0x058 (List.replicate 40 0xFF) ∧
    shows 0x080 (e.pairs.toList.flatMap pair) ∧
    shows 0x0B0 (List.replicate 16 0xFF) ∧
    (∀ k : Fin 8, shows (0x0C0 + 32 * k.val) (match s.stm.comps[k] with
      | none => List.replicate 32 0xFF
      | some c => lowFirst 2 c.ident.toNat ++ lowFirst 4 c.version.toNat ++ lowFirst 4 c.offset ++
          lowFirst 4 c.length ++ lowFirst 4 c.code.toNat ++ lowFirst 2 c.chunkCount ++ lowFirst 2 c.coded ++
          [if c.checked then 1 else 0] ++ List.replicate 9 0xFF)) ∧
    shows 0x1C0 ([b (presenceCode s.ppc.presence), b ((s.ppc.invalid.map invalidCode).getD 0), b s.settings.flashExp,
      b (policyCode s.settings.policy), b s.settings.busyBit, b s.settings.welBit, b s.settings.progExp,
      b s.settings.eraseExp, b s.settings.confirmExp, b s.settings.threshold, b (lineSourceCode s.settings.st0),
      b (lineSourceCode s.settings.st1)] ++ List.replicate 4 0xFF) ∧
    (∀ k : Fin 12, shows (0x1D0 + 4 * k.val) (match s.settings.regions[k] with
      | none => [0, 0, 0, 0]
      | some r => lowFirst 4 (r.base.toNat + 2 ^ 12 * r.limit.toNat + 2 ^ 24 * regionKindCode r.kind +
          2 ^ 28 * (if r.kind = .slot .slot1 then 1 else 0)))) ∧
    (∀ j < 64, shows (0x200 + 3 * j) (match bad[j]? with
      | none => [0xFF, 0xFF, 0xFF]
      | some c => lowFirst 2 (c.ref.chunk % 1024 + 1024 * (c.ref.comp % 8)) ++ [b c.mismatches])) ∧
    (∀ k : Fin 24, shows (0x2C0 + 2 * k.val) (match s.settings.commands[k] with
      | none => [0, 0]
      | some x => [x.code, b (cmdClassCode x.cls + (if x.addrFlag then 16 else 0) + 32 * (x.dummies % 4))])) ∧
    shows 0x2F0 (List.replicate 16 0xFF) ∧
    (∀ m < 32, shows (0x300 + 16 * m) (match s.rpu.events[m]? with
      | none => List.replicate 16 0xFF
      | some x => [b (eventCode x.kind), if attention x.kind then 1 else 0, b x.count, 0xFF] ++
          lowFirst 2 x.seq.toNat ++ [0xFF, 0xFF] ++ lowFirst 4 x.detail.toNat ++ List.replicate 4 0xFF)) ∧
    (∀ i < 1024, ∃ f, image[0x500 + i / 2]? = some f ∧ f.toNat / 16 ^ (i % 2) % 16 =
      ((s.ckt.chunks[i]?.map fun c => chunkStateCode c.state).getD 15)) ∧
    ∀ i, 0x700 ≤ i → i < 0x1000 → image[i]? = some 0xFF#8

/-- R32 to R35: at a crossing the run continues where the new granule's own mapping gives the run's next flash address,
and else the read turns to fill; a read that leaves the report window turns to fill. R1, R31: short of the crossing each
data byte advances the running address by one, modulo 2^24, and a run's next flash address by one, modulo the flash size;
a filled read goes on across granules with no check. (Bytes sent are an operand: the model's choice, log 9.) -/
def Obligations.CrossingContinuesOrFills : Prop :=
  ∀ (s : State) (a n : Addr), s.trc.txn.isOpen = true → s.trc.txn.inStarting = false → s.trc.txn.running = some a →
    n.toNat = (a.toNat / 4096 + 1) % 4096 * 4096 →
    let filled : State := { s with
      trc := { s.trc with
        txn := { s.trc.txn with running := some n, disposition := some .fill, run := none }, flash := none }
      rpu :=
        if (lookup s.settings (granuleOf n)).outOfRange then
          (s.rpu.post .filledRead (defaultSeq s) (detailAddr n)).post .outOfRange (defaultSeq s) (detailAddr n)
        else s.rpu.post .filledRead (defaultSeq s) (detailAddr n) }
    (∀ (run : Run) (next : Nat), s.trc.txn.run = some run →
      next = (run.flashAddr + (4096 - a.toNat % 4096)) % 2 ^ s.settings.flashExp →
      (mappedTo s.settings run.bootSlot n = some next →
        exec .readGranuleCrossing s = .next { s with trc := { s.trc with
          txn := { s.trc.txn with running := some n, run := some { run with flashAddr := next } } } }) ∧
      (mappedTo s.settings run.bootSlot n ≠ some next → exec .readGranuleCrossing s = .next filled)) ∧
    (s.trc.txn.disposition = some .answer → exec .reportReadLeavesWindow s = .next filled) ∧
    let sent (k : Nat) : State := { s with trc := { s.trc with txn := { s.trc.txn with
      running := some (BitVec.ofNat 24 (a.toNat + k))
      run := s.trc.txn.run.map fun run => { run with flashAddr := (run.flashAddr + k) % 2 ^ s.settings.flashExp } } } }
    (∀ k < 4096 - a.toNat % 4096,
      ((s.trc.txn.run ≠ none ∨ s.trc.txn.disposition = some .fill) →
        exec (.readGranuleCrossing (some k)) s = .next (sent k)) ∧
      (s.trc.txn.disposition = some .answer → exec (.reportReadLeavesWindow (some k)) s = .next (sent k))) ∧
    (s.trc.txn.run = none → s.trc.txn.disposition = some .fill →
      exec .readGranuleCrossing s = .next (sent (4096 - a.toNat % 4096)))

/-! ### Programs and erases (spec 01, 02, 03) -/

/-- R7, R20, R26, R28, R48: an erase is forwarded when every granule it covers permits it and is suppressed whole
otherwise, with OUT_OF_RANGE for its lowest out-of-range granule (an ERASE_4K's with the start address given: log 11),
then SUPPRESSED_WRITE, and cleanup pending set. An ERASE_ALL is suppressed in RUN and in DEGRADED, with address
000000h. -/
def Obligations.ErasesAreForwardedOrSuppressed : Prop :=
  (∀ (s : State) (code : Byte) (a : Addr) (c : CmdClass) (i : Instr) (gs : List Nat) (oor : Option Addr),
    AtCommand s c code →
    ((c = .erase4k ∧ i = .erase4k code (some a) ∧ gs = [granuleOf a] ∧
        oor = if (lookup s.settings (granuleOf a)).outOfRange then some a else none) ∨
      (c = .erase64k ∧ i = .erase64k code (some a) ∧ gs = (List.range 16).map (fun k => a.toNat / 65536 * 16 + k) ∧
        oor = (gs.find? fun g => (lookup s.settings g).outOfRange).map fun g => BitVec.ofNat 24 (g * 4096))) →
    ((∀ g ∈ gs, GranuleWritable s g (SectorOpen s g)) →
      exec i s = .next { s with trc := { s.trc with
        txn := { s.trc.txn with cls := some c, start := some a, running := some a, disposition := some .forward }
        flash := some { owner := .upstream, code := code, addr := some a, dummies := 0 } } }) ∧
    ((∃ g ∈ gs, ¬ GranuleWritable s g (SectorOpen s g)) →
      exec i s = .next { s with
        trc := { s.trc with
          txn := { s.trc.txn with cls := some c, start := some a, running := some a, disposition := some .suppress }
          flash := none, cleanup := true }
        rpu := (match oor with
          | some o => s.rpu.post .outOfRange (defaultSeq s) (detailAddr o)
          | none => s.rpu).post .suppressedWrite (defaultSeq s) (detailWrite c a) })) ∧
  (∀ (s : State) (code : Byte), AtCommand s .eraseAll code →
    exec (.eraseAll code) s = .next { s with
      trc := { s.trc with
        txn := { s.trc.txn with cls := some .eraseAll, start := none, running := none, disposition := some .suppress }
        flash := none, cleanup := true }
      rpu := s.rpu.post .suppressedWrite (defaultSeq s) (detailWrite .eraseAll 0) })

/-- R6, R8, R20, R26, R28: a PROGRAM that is no append request is forwarded where its granule permits it and suppressed
otherwise. (One in a MANIFEST granule inside a slot's own range is no append request: log 31.) -/
def Obligations.ProgramsAreForwardedOrSuppressed : Prop :=
  ∀ (s : State) (code : Byte) (a : Addr), AtCommand s .program code → ¬ IsAppendRequest s a →
    (GranuleWritable s (granuleOf a) False →
      exec (.program code (some a)) s = .next { s with trc := { s.trc with
        txn := { s.trc.txn with
          cls := some .program, start := some a, running := some a, disposition := some .forward, cut := none }
        flash := some { owner := .upstream, code := code, addr := some a, dummies := 0 } } }) ∧
    (¬ GranuleWritable s (granuleOf a) False →
      exec (.program code (some a)) s = .next { s with
        trc := { s.trc with
          txn := { s.trc.txn with
            cls := some .program, start := some a, running := some a, disposition := some .suppress }
          flash := none, cleanup := true }
        rpu := (if (lookup s.settings (granuleOf a)).outOfRange then
            s.rpu.post .outOfRange (defaultSeq s) (detailAddr a)
          else s.rpu).post .suppressedWrite (defaultSeq s) (detailWrite .program a) })

/-- R38, R40: the Log Parser's checks on an append request, in order; a permitted append takes the end of its page as its
cut boundary, a refused one posts its event and then SUPPRESSED_WRITE and leaves the Log Parser as it stands. R163: a
LOG_FULL refusal abandons a set in RECEIVING, CLOSED or READY: the queue is purged, a SCANNING chunk becomes DIRTY, and
the set's figures stay as they stood. (Inside a slot's own range nothing is asked of the Log Parser: log 31.) -/
def Obligations.AppendRequestsAreRuled : Prop :=
  ∀ (s : State) (code : Byte) (a : Addr), AtCommand s .program code → IsAppendRequest s a →
    let refused (k : EventKind) : State := { s with
      trc := { s.trc with
        txn := { s.trc.txn with
          cls := some .program, start := some a, running := some a, disposition := some .suppress }
        flash := none, cleanup := true }
      rpu := (s.rpu.post k (defaultSeq s) (detailAddr a)).post .suppressedWrite (defaultSeq s)
        (detailWrite .program a) }
    (s.lgp.appendPoint = 16384 → preparing s.stm.setState = false →
      exec (.program code (some a)) s = .next (refused .logFull)) ∧
    (s.lgp.appendPoint = 16384 → preparing s.stm.setState = true →
      exec (.program code (some a)) s = .next { refused .logFull with
        stm := { s.stm with setState := .abandoned }
        ckt := { chunks := s.ckt.chunks.map fun c => if c.state = .scanning then { c with state := .dirty } else c
                 queue := [] }
        scan := none }) ∧
    (s.lgp.appendPoint ≠ 16384 → a.toNat ≠ areaBase s.settings + s.lgp.appendPoint →
      exec (.program code (some a)) s = .next (refused .logOutOfOrder)) ∧
    (s.lgp.appendPoint ≠ 16384 → a.toNat = areaBase s.settings + s.lgp.appendPoint →
      ∀ k : Fin 4, k.val = s.lgp.appendPoint / 4096 → s.lgp.clean[k] = false →
        exec (.program code (some a)) s = .next (refused .logNotErased)) ∧
    (s.lgp.appendPoint ≠ 16384 → a.toNat = areaBase s.settings + s.lgp.appendPoint →
      ∀ k : Fin 4, k.val = s.lgp.appendPoint / 4096 → s.lgp.clean[k] = true →
        exec (.program code (some a)) s = .next { s with trc := { s.trc with
          txn := { s.trc.txn with
            cls := some .program, start := some a, running := some a, disposition := some .forward
            cut := some ((a.toNat / 256 + 1) * 256) }
          flash := some { owner := .upstream, code := code, addr := some a, dummies := 0 } } })

/-- R6, R8, R39: a data byte of a forwarded program outside the log, or below the append point of a permitted append,
passes to the flash on FDO and changes nothing else; a data byte of a suppressed program is discarded. R40: a data byte
at or beyond the cut boundary is discarded and FCS is released; the first such byte of the transaction posts LOG_CUT with
the boundary (000000h for the top of the address space: log 13), and a later one posts nothing. R5, R7: in a forwarded
STATUS_READ, WRITE_ENABLE, WRITE_DISABLE, PASS or sized erase a byte that the processor sends after the command, address
and dummies goes out last on FDO and changes nothing else (that this row carries such a byte is the model's choice, log
35). -/
def Obligations.DataBytesPassOrAreDiscarded : Prop :=
  (∀ (s : State) (b : Byte) (start a : Addr), Programming s start a →
    (s.trc.txn.cut = none ∨ ∃ cut, s.trc.txn.cut = some cut ∧ start.toNat + s.trc.txn.received < cut ∧
      a.toNat - areaBase s.settings ≠ s.lgp.appendPoint) →
    exec (.programDataByte b) s = .next { s with trc := { s.trc with
      txn := { s.trc.txn with
        received := s.trc.txn.received + 1, passed := true
        running := some (BitVec.ofNat 24 (a.toNat / 256 * 256 + (a.toNat + 1) % 256)) }
      flash := s.trc.flash.map fun f => { f with data := f.data ++ [b] } } }) ∧
  (∀ (s : State) (b : Byte) (start a : Addr), s.trc.txn.isOpen = true → s.trc.txn.inStarting = false →
    s.trc.txn.cls = some .program → s.trc.txn.start = some start → s.trc.txn.running = some a →
    s.trc.txn.disposition = some .suppress →
    exec (.programDataByte b) s = .next { s with trc := { s.trc with txn := { s.trc.txn with
      received := s.trc.txn.received + 1
      running := some (BitVec.ofNat 24 (a.toNat / 256 * 256 + (a.toNat + 1) % 256)) } } }) ∧
  (∀ (s : State) (b : Byte) (start a : Addr) (cut : Nat), Programming s start a → s.trc.txn.cut = some cut →
    cut ≤ start.toNat + s.trc.txn.received →
    exec (.programDataByte b) s = .next { s with
      trc := { s.trc with
        txn := { s.trc.txn with
          received := s.trc.txn.received + 1, cutPosted := true
          running := some (BitVec.ofNat 24 (a.toNat / 256 * 256 + (a.toNat + 1) % 256)) }
        flash := none }
      rpu := if s.trc.txn.cutPosted then s.rpu
        else s.rpu.post .logCut (defaultSeq s) (detailAddr (BitVec.ofNat 24 cut)) }) ∧
  (∀ (s : State) (b : Byte) (c : CmdClass) (f : FlashTxn), s.trc.txn.isOpen = true → s.trc.txn.inStarting = false →
    c ∈ [CmdClass.statusRead, .writeEnable, .writeDisable, .pass, .erase4k, .erase64k] → s.trc.txn.cls = some c →
    s.trc.txn.disposition = some .forward → s.trc.flash = some f →
    exec (.programDataByte b) s = .next { s with trc := { s.trc with flash := some { f with data := f.data ++ [b] } } }) ∧
  ∀ (f : FlashTxn) (b : Byte) (dummy : Nat → Byte),
    flashBytes { f with data := f.data ++ [b] } dummy = flashBytes f dummy ++ [b]

/-- R6, R39, R42 to R46: an appended byte passes to the flash, joins the buffer and raises the append point by one; a
header judged torn, or a complete record whose check disagrees, is torn past its cells; a whole record is handed as the
command its kind byte names, with the append point at its cell boundary and the buffer empty. -/
def Obligations.AppendedBytesBuildRecords : Prop :=
  ∀ (s : State) (b : Byte) (start a : Addr) (cut : Nat), Programming s start a → s.sup.part = .run →
    s.trc.txn.cut = some cut → start.toNat + s.trc.txn.received < cut →
    a.toNat - areaBase s.settings = s.lgp.appendPoint →
    ∀ (p : State) (buf : List Byte) (o : Nat),
      p = { s with trc := { s.trc with
        txn := { s.trc.txn with
          received := s.trc.txn.received + 1, passed := true
          running := some (BitVec.ofNat 24 (a.toNat / 256 * 256 + (a.toNat + 1) % 256)) }
        flash := s.trc.flash.map fun f => { f with data := f.data ++ [b] } } } →
      buf = s.lgp.buffer ++ [b] → o = s.lgp.appendPoint - s.lgp.buffer.length →
      let torn (n : Nat) : State := { p with
        lgp := { p.lgp with appendPoint := min 16384 (o + 32 * n), buffer := [], phase := .awaitingHeader }
        rpu := p.rpu.post .recordTorn (defaultSeq p) (detailAddr (areaAddr p.settings o)) }
      (∀ hdr body : List Byte, hdr.length = 8 → buf = hdr ++ body → body.length = (field16 hdr 4).toNat →
        byteAt hdr 0 ≠ 0xFF#8 → (s.lgp.phase = .awaitingHeader → body = [] ∧ ∃ n, judgeHeader o hdr = .valid n) →
        (recordCheck (byteAt hdr 0) (hdr.take 6 ++ body) = field16 hdr 6 →
          exec (.programDataByte b) s = exec (recordRow (byteAt hdr 0)
              { cells := (byteAt hdr 1).toNat, seq := field16 hdr 2, check := field16 hdr 6, body := body,
                start := areaAddr s.settings o })
            { p with lgp := { p.lgp with
              appendPoint := max (p.lgp.appendPoint + 1) (min 16384 (o + 32 * (byteAt hdr 1).toNat))
              buffer := [], phase := .awaitingHeader } }) ∧
        (recordCheck (byteAt hdr 0) (hdr.take 6 ++ body) ≠ field16 hdr 6 →
          exec (.programDataByte b) s = .next (torn (byteAt hdr 1).toNat))) ∧
      (s.lgp.phase = .awaitingHeader → buf.length < 8 →
        exec (.programDataByte b) s = .next { p with lgp := { p.lgp with
          appendPoint := p.lgp.appendPoint + 1, buffer := buf } }) ∧
      (s.lgp.phase = .awaitingHeader → buf.length = 8 → ∀ n, judgeHeader o buf = .torn n →
        exec (.programDataByte b) s = .next (torn n)) ∧
      (s.lgp.phase = .awaitingHeader → buf.length = 8 → 0 < (field16 buf 4).toNat →
        ∀ n, judgeHeader o buf = .valid n →
        exec (.programDataByte b) s = .next { p with lgp := { p.lgp with
          appendPoint := p.lgp.appendPoint + 1, buffer := buf, phase := .awaitingBody } }) ∧
      (s.lgp.phase = .awaitingBody → buf.length < 8 + (field16 buf 4).toNat →
        exec (.programDataByte b) s = .next { p with lgp := { p.lgp with
          appendPoint := p.lgp.appendPoint + 1, buffer := buf } })

/-- R43: the judgement of a header, in its order, and the tearing of a record whose cells lie beyond the area end. -/
def Obligations.HeadersAreJudgedInOrder : Prop :=
  ∀ (start : Nat) (hdr : List Byte) (kind : Byte) (cells len : Nat),
    kind = byteAt hdr 0 → cells = (byteAt hdr 1).toNat → len = (field16 hdr 4).toNat →
    (kind = 0xFF#8 → judgeHeader start hdr = .torn 1) ∧
    (kind ≠ 0xFF#8 → ¬ (1 ≤ cells ∧ cells ≤ 8) → judgeHeader start hdr = .torn 1) ∧
    (kind ≠ 0xFF#8 → 1 ≤ cells → cells ≤ 8 → (248 < len ∨ 32 * cells < 8 + len ∨ 8 + len ≤ 32 * (cells - 1)) →
      judgeHeader start hdr = .torn cells) ∧
    (kind ≠ 0xFF#8 → 1 ≤ cells → cells ≤ 8 → len ≤ 248 → 8 + len ≤ 32 * cells → 32 * (cells - 1) < 8 + len →
      judgeHeader start hdr = if 16384 < start + 32 * cells then .torn cells else .valid cells)

/-- R1, R5, R13, R151: the release of UCS closes the record, releases FCS and discards the snapshot; the end of a
forwarded WRITE_ENABLE, WRITE_DISABLE or PROGRAM, with no byte passed, clears cleanup pending and does no more. -/
def Obligations.ReleaseClosesTheTransaction : Prop :=
  ∀ s : State, s.trc.txn.isOpen = true → s.trc.txn.inStarting = false →
    (s.trc.txn.disposition ≠ some .forward ∨ s.trc.txn.cls = some .read ∨ s.trc.txn.cls = some .statusRead ∨
        s.trc.txn.cls = some .pass →
      exec .ucsReleased s = .next { s with
        trc := { s.trc with txn := Txn.closed, flash := none }, rpu := { s.rpu with snapshot := none } }) ∧
    (s.trc.txn.disposition = some .forward →
      (s.trc.txn.cls = some .writeEnable ∨ s.trc.txn.cls = some .writeDisable ∨
        (s.trc.txn.cls = some .program ∧ s.trc.txn.start ≠ none ∧ s.trc.txn.passed = false)) →
      exec .ucsReleased s = .next { s with
        trc := { s.trc with txn := Txn.closed, flash := none, cleanup := false }
        rpu := { s.rpu with snapshot := none } })

/-- R14, R6, R7: the end of a forwarded write begins a busy period of its kind at its start address, clears STUCK and
cleanup pending, and then tells the Chunk Tracker and the Log Parser of the page or of the granules. -/
def Obligations.ReleaseOfAWriteStartsTheBusyPeriod : Prop :=
  ∀ (s : State) (a : Addr), s.trc.txn.isOpen = true → s.trc.txn.inStarting = false →
    s.trc.txn.disposition = some .forward → s.trc.txn.start = some a →
    let after (k : PeriodKind) : State := { s with
      trc := { txn := Txn.closed, flash := none, busy := some { since := s.now, kind := k, addr := a }, stuck := false,
               cleanup := false }
      rpu := { s.rpu with snapshot := none } }
    (s.trc.txn.cls = some .program → s.trc.txn.passed = true →
      exec .ucsReleased s =
        .next (noticeLogProgram (a.toNat / 256 * 256) (noticeProgram (a.toNat / 256 * 256) (after .program)))) ∧
    (s.trc.txn.cls = some .erase4k →
      exec .ucsReleased s = .next (noticeLogErase [granuleOf a] (noticeErase [granuleOf a] (after .erase)))) ∧
    (s.trc.txn.cls = some .erase64k →
      exec .ucsReleased s = .next (noticeLogErase (blockGranules a) (noticeErase (blockGranules a) (after .erase))))

/-- R49, R50: what the Log Parser does on the notice of an erase or a program: covered sectors become clean; an erase of
sector 0 under the MANIFEST entry resets the log and sends the set to IDLE with everything discarded; a program under
another region's ruling leaves its sector not clean. -/
def Obligations.LogNoticesMoveTheFlags : Prop :=
  (∀ (s : State) (gs : List Nat) (reset : Bool),
    (reset = true ↔ ∃ g ∈ gs, sectorOf s.settings g = some 0 ∧ (lookup s.settings g).kind = .manifest) →
    ∃ clean : Vector Bool 4,
      (∀ k : Fin 4, clean[k] = true ↔ (∃ g ∈ gs, sectorOf s.settings g = some k) ∨
        (s.lgp.clean[k] = true ∧ (reset = false ∨ s.lgp.appendPoint ≤ k.val * 4096))) ∧
      (reset = false → noticeLogErase gs s = { s with lgp := { s.lgp with clean := clean } }) ∧
      (reset = true → noticeLogErase gs s = { s with
        lgp := { s.lgp with clean := clean, appendPoint := 0, buffer := [], phase := .awaitingHeader }
        stm := { setState := .idle, set := none, comps := Vector.replicate 8 none, accepted := 0, digest := none,
                 reason := none, mismatchTotal := 0, logHigh := 0 }
        ckt := { chunks := [], queue := [] }
        scan := none
        trc := if s.trc.flash.map FlashTxn.owner = some .scan then { s.trc with flash := none } else s.trc })) ∧
  (∀ (s : State) (page : Nat),
    (∀ k, sectorOf s.settings (page / 4096) = some k → (lookup s.settings (page / 4096)).kind ≠ .manifest →
      noticeLogProgram page s = { s with lgp := { s.lgp with clean := s.lgp.clean.set k false } }) ∧
    ((sectorOf s.settings (page / 4096) = none ∨ (lookup s.settings (page / 4096)).kind = .manifest) →
      noticeLogProgram page s = s))

/-! ### Notices, rescans and outcomes in the Chunk Tracker (spec 05) -/

/-- R80 to R82: a program notice in a live set state, in a granule of the target slot, sets the written flag of every
chunk the page touches and makes each coded one DIRTY, those that were not DIRTY joining the queue's tail; otherwise it
changes nothing. -/
def Obligations.ProgramNoticeMakesDirty : Prop :=
  ∀ (s : State) (page : Nat), (s.ckt.chunks.map Chunk.ref).Nodup →
    ((liveState s.stm.setState = false ∨ takesGranule s (page / 4096) = false) → noticeProgram page s = s) ∧
    (liveState s.stm.setState = true → takesGranule s (page / 4096) = true →
      noticeProgram page s = { s with
        ckt := {
          chunks := s.ckt.chunks.map fun c => if touches s c.ref page 256 then afterProgram c else c
          queue := if served s then
              s.ckt.queue ++ (s.ckt.chunks.filter fun c =>
                touches s c.ref page 256 && c.state != .uncoded && c.state != .dirty).map Chunk.ref
            else s.ckt.queue }
        scan := if s.ckt.chunks.any fun c => touches s c.ref page 256 && c.state == .scanning then none else s.scan
        trc :=
          if (s.ckt.chunks.any fun c => touches s c.ref page 256 && c.state == .scanning) = true ∧
            s.trc.flash.map FlashTxn.owner = some .scan then { s.trc with flash := none } else s.trc
        stm := { s.stm with setState :=
          if s.stm.setState = .ready ∧ ∃ c ∈ s.ckt.chunks, touches s c.ref page 256 = true ∧ c.state = .good
          then .closed else s.stm.setState } })

/-- R80, R81, R83: an erase notice in a live set state makes every coded chunk that a covered granule of the target slot
touches ERASED and removes the DIRTY ones from the queue, keeping the order of the others. -/
def Obligations.EraseNoticeMakesErased : Prop :=
  ∀ (s : State) (gs : List Nat) (touched : Chunk → Bool), (s.ckt.chunks.map Chunk.ref).Nodup →
    (∀ c, touched c = true ↔ ∃ g ∈ gs, takesGranule s g = true ∧ touches s c.ref (g * 4096) 4096 = true) →
    (liveState s.stm.setState = false → noticeErase gs s = s) ∧
    (liveState s.stm.setState = true →
      noticeErase gs s = { s with
        ckt := {
          chunks := s.ckt.chunks.map fun c => if touched c then afterErase c else c
          queue := s.ckt.queue.filter fun r =>
            !(s.ckt.chunks.any fun c => touched c && c.state == .dirty && c.ref == r) }
        scan := if s.ckt.chunks.any fun c => touched c && c.state == .scanning then none else s.scan
        trc :=
          if (s.ckt.chunks.any fun c => touched c && c.state == .scanning) = true ∧
            s.trc.flash.map FlashTxn.owner = some .scan then { s.trc with flash := none } else s.trc
        stm := { s.stm with setState :=
          if s.stm.setState = .ready ∧ ∃ c ∈ s.ckt.chunks, touched c = true ∧ c.state = .good then .closed
          else s.stm.setState } })

/-- R73, R90: the checks of a RESCAN in their order, and its effect: the ERASED, GOOD and BAD chunks named become DIRTY
and join the queue's tail in set order; a READY set of which a chunk leaves GOOD returns to CLOSED. -/
def Obligations.RescanMakesDirty : Prop :=
  ∀ (s : State) (r : Record), Handed s →
    (r.body.length ≠ 1 → exec (.rescanRecord r) s = refusedRecord 9 .malformed r s) ∧
    (∀ k : Byte, r.body = [k] →
      (s.stm.set = none → exec (.rescanRecord r) s = refusedRecord 9 .noSet r s) ∧
      (∀ cs, s.stm.set = some cs →
        (r.seq ≠ cs.seq → exec (.rescanRecord r) s = refusedRecord 9 .wrongSequence r s) ∧
        (r.seq = cs.seq → rescannable s.stm.setState = false →
          exec (.rescanRecord r) s = refusedRecord 9 .wrongState r s) ∧
        (r.seq = cs.seq → rescannable s.stm.setState = true → k ≠ 0xFF#8 → componentAt s k.toNat = none →
          exec (.rescanRecord r) s = refusedRecord 9 .malformed r s) ∧
        (r.seq = cs.seq → rescannable s.stm.setState = true → (k = 0xFF#8 ∨ componentAt s k.toNat ≠ none) →
          (s.ckt.chunks.map Chunk.ref).Nodup →
          ∀ named : Chunk → Bool, (∀ c, named c = true ↔ k = 0xFF#8 ∨ c.ref.comp = k.toNat) →
          exec (.rescanRecord r) s = .next { s with
            ckt := {
              chunks := s.ckt.chunks.map fun c => if named c then afterRescan c else c
              queue := s.ckt.queue ++ (s.ckt.chunks.filter fun c =>
                named c && (c.state == .erased || c.state == .good || c.state == .bad)).map Chunk.ref }
            stm := { s.stm with setState :=
              if s.stm.setState = .ready ∧ ∃ c ∈ s.ckt.chunks, named c = true ∧ c.state = .good then .closed
              else s.stm.setState } })))

/-! ### Records (spec 04) -/

/-- R57: the checks of a live OPEN, in their order; the first that fails gives the refusal and nothing else changes. -/
def Obligations.OpenChecksInOrder : Prop :=
  ∀ (s : State) (r : Record), Handed s →
    let admits : Prop := s.bsv.image.boot = .stable ∧ settledState s.stm.setState = true
    (r.body.length ≠ 4 → exec (.openRecord r) s = refusedRecord 1 .malformed r s) ∧
    (∀ slot count exponent attempts : Byte, r.body = [slot, count, exponent, attempts] →
      let ranges : Prop := slot.toNat ≤ 1 ∧ 1 ≤ count.toNat ∧ count.toNat ≤ 8 ∧ 12 ≤ exponent.toNat ∧
        exponent.toNat ≤ 14 ∧ 1 ≤ attempts.toNat ∧ attempts.toNat ≤ 7
      let exceeds : Prop := s.bsv.image.committedSeq < r.seq ∧ s.bsv.image.trialSeq < r.seq ∧
        s.bsv.image.lastReverted < r.seq ∧ s.stm.logHigh < r.seq
      (¬ admits → exec (.openRecord r) s = refusedRecord 1 .wrongState r s) ∧
      (admits → s.bsv.inFlight ≠ none → exec (.openRecord r) s = refusedRecord 1 .busy r s) ∧
      (admits → s.bsv.inFlight = none → ¬ ranges → exec (.openRecord r) s = refusedRecord 1 .malformed r s) ∧
      (admits → s.bsv.inFlight = none → ranges → slot.toNat = slotCode s.bsv.image.committed →
        exec (.openRecord r) s = refusedRecord 1 .wrongSlot r s) ∧
      (admits → s.bsv.inFlight = none → ranges → slot.toNat ≠ slotCode s.bsv.image.committed → ¬ exceeds →
        exec (.openRecord r) s = refusedRecord 1 .staleSequence r s))

/-- R58: an OPEN that passes its checks replaces the current set: the old components and chunks go, the new set has the
record's fields, the count is 1, the digest is seeded and folds the record check, and the set is RECEIVING; no event. -/
def Obligations.OpenReplacesTheSet : Prop :=
  ∀ (s : State) (r : Record) (count exponent attempts : Byte) (slot : Byte) (target : Slot), Handed s →
    r.body = [slot, count, exponent, attempts] → slot.toNat = slotCode target → target ≠ s.bsv.image.committed →
    1 ≤ count.toNat → count.toNat ≤ 8 → 12 ≤ exponent.toNat → exponent.toNat ≤ 14 → 1 ≤ attempts.toNat →
    attempts.toNat ≤ 7 →
    s.bsv.image.boot = .stable → settledState s.stm.setState = true → s.bsv.inFlight = none →
    s.bsv.image.committedSeq < r.seq → s.bsv.image.trialSeq < r.seq → s.bsv.image.lastReverted < r.seq →
    s.stm.logHigh < r.seq →
    exec (.openRecord r) s = .next { s with
      stm := {
        setState := .receiving
        set := some { seq := r.seq, target := target, chunkExp := exponent.toNat, attempts := attempts.toNat,
                      compCount := count.toNat, rebuildClass := none }
        comps := Vector.replicate 8 none
        accepted := 1
        digest := some (laneStep { a := 1, b := r.seq.toNat % 65521 } r.check.toNat)
        reason := none
        mismatchTotal := 0
        logHigh := r.seq }
      ckt := { chunks := [], queue := [] }
      scan := none
      trc := if s.trc.flash.map FlashTxn.owner = some .scan then { s.trc with flash := none } else s.trc }

/-- R59: a COMPONENT, CODES or CLOSE record outside RECEIVING is refused with WRONG_STATE, and one of another sequence
with WRONG_SEQUENCE; the set is unaffected. R46: a whole record of an unknown kind is refused with UNKNOWN_KIND. R162: the
refusal reasons are coded 1 to 10, and RECORD_REFUSED holds the kind byte in byte 0 and the reason in byte 1. -/
def Obligations.StrayRecordsAreRefused : Prop :=
  [RefuseReason.wrongState, .wrongSequence, .busy, .malformed, .wrongSlot, .staleSequence, .notReady, .noStore, .noSet,
    .unknownKind].map refuseCode = [1, 2, 3, 4, 5, 6, 7, 8, 9, 10] ∧
  (∀ (s : State) (kind : Byte) (reason : RefuseReason) (r : Record), ∃ detail : Word32,
    detail.toNat = kind.toNat + 256 * refuseCode reason ∧
    refusedRecord kind reason r s = .next { s with rpu := s.rpu.post .recordRefused r.seq detail }) ∧
  (∀ (s : State) (kind : Byte) (r : Record), Handed s → (kind.toNat = 0 ∨ 9 < kind.toNat) → kind ≠ 0xFF#8 →
    exec (.unknownKind kind r) s = refusedRecord kind .unknownKind r s) ∧
  (∀ (s : State) (r : Record) (kind : Byte) (i : Instr), Handed s →
    (kind, i) ∈ [(2#8, Instr.componentRecord r), (3#8, .codesRecord r), (4#8, .closeRecord r)] →
    ((s.stm.setState ≠ .receiving ∨ s.stm.set = none) → exec i s = refusedRecord kind .wrongState r s) ∧
    (∀ cs, s.stm.set = some cs → s.stm.setState = .receiving → r.seq ≠ cs.seq →
      exec i s = refusedRecord kind .wrongSequence r s))

/-- R61, R62, R65: a COMPONENT that passes the gate and the nine checks declares its component, creates its UNCODED
chunks in set order, and is counted and folded. -/
def Obligations.ComponentIsDeclared : Prop :=
  ∀ (s : State) (r : Record) (cs : CurrentSet) (k : Nat) (c : Component), PassesGate s r cs →
    r.body.length = 20 → k = (byteAt r.body 0).toNat →
    c = { ident := field16 r.body 2, version := field32 r.body 4, offset := (field32 r.body 8).toNat,
          length := (field32 r.body 12).toNat, code := field32 r.body 16,
          chunkCount := ((field32 r.body 12).toNat + 2 ^ cs.chunkExp - 1) / 2 ^ cs.chunkExp, coded := 0,
          checked := false } →
    k < cs.compCount → componentAt s k = none → c.ident ≠ 0xFFFF#16 → 1 ≤ c.length →
    c.offset % 2 ^ cs.chunkExp = 0 → c.offset + c.length ≤ slotSize s.settings cs.target →
    (∀ d ∈ declared s, c.offset + c.chunkCount * 2 ^ cs.chunkExp ≤ d.offset ∨
      d.offset + d.chunkCount * 2 ^ cs.chunkExp ≤ c.offset) →
    totalChunks s + c.chunkCount ≤ 1024 →
    (recognized cs = true ∨ ∀ p ∈ s.bsv.image.pairs.toList, p.ident ≠ 0xFFFF#16 → p.ident = c.ident →
      p.version ≤ c.version) →
    halvesBelow c.code = true →
    exec (.componentRecord r) s = .next { s with
      stm := { s.stm with
        comps := s.stm.comps.setIfInBounds k (some c)
        accepted := s.stm.accepted + 1
        digest := s.stm.digest.map fun l => laneStep l r.check.toNat }
      ckt := { s.ckt with chunks :=
        (s.ckt.chunks.filter fun x => x.ref.comp < k) ++
        ((List.range c.chunkCount).map fun i => { ref := { comp := k, chunk := i }, expected := none,
                                                  state := .uncoded, written := false, mismatches := 0 }) ++
        (s.ckt.chunks.filter fun x => k < x.ref.comp) } }

/-- R60, R75, R91: a COMPONENT, CODES or CLOSE that passes the gate and fails a check rejects the set: the reason is
recorded, the set is REJECTED, the queue is purged and the chunk states are frozen, SET_REJECTED names the component
index of the body (FFh for CLOSE), and the record is neither counted nor folded. A COMPONENT or CODES with an empty body
is MALFORMED and names a free value (log 10). -/
def Obligations.FailedChecksRejectTheSet : Prop :=
  ∀ (s : State) (r : Record) (cs : CurrentSet) (i : Instr), PassesGate s r cs →
    let rejected (reason : RejectReason) (index : Byte) : State := { s with
      stm := { s.stm with setState := .rejected, reason := some reason }
      ckt := { chunks := s.ckt.chunks.map fun c => if c.state = .scanning then { c with state := .dirty } else c
               queue := [] }
      scan := none
      trc := if s.trc.flash.map FlashTxn.owner = some .scan then { s.trc with flash := none } else s.trc
      rpu := s.rpu.post .setRejected cs.seq (detailBytes (byteOf (rejectCode reason)) index) }
    (∀ (k : Byte) (rest : List Byte) (reason : RejectReason) (index : Byte),
      ((i = .componentRecord r ∧ r.body = k :: rest ∧ index = k ∧ componentVerdict cs r s = .error reason) ∨
        (i = .codesRecord r ∧ r.body = k :: rest ∧ index = k ∧ codesVerdict cs r s = .error reason) ∨
        (i = .closeRecord r ∧ index = 0xFF#8 ∧ closeVerdict cs r s = .error reason)) →
      exec i s = .next (rejected reason index)) ∧
    ((i = .componentRecord r ∨ i = .codesRecord r) → r.body = [] →
      exec i s = .next { rejected .malformed (Config.unnamedIndex s.freeDraws) with freeDraws := s.freeDraws + 1 })

/-- R61, R63, R66: the rejection reasons in the order of the checks. -/
def Obligations.RejectionReasonsInOrder : Prop :=
  ∀ (s : State) (r : Record) (cs : CurrentSet),
    (r.body.length ≠ 20 → componentVerdict cs r s = .error .malformed) ∧
    (r.body.length = 20 → ∀ c, c = componentFields cs r →
      let named : Prop := (byteAt r.body 0).toNat < cs.compCount ∧ componentAt s (byteAt r.body 0).toNat = none ∧
        field16 r.body 2 ≠ 0xFFFF#16 ∧ 1 ≤ (field32 r.body 12).toNat
      let placed : Prop := (field32 r.body 8).toNat % 2 ^ cs.chunkExp = 0 ∧
        (field32 r.body 8).toNat + (field32 r.body 12).toNat ≤ slotSize s.settings cs.target ∧
        (∀ d ∈ declared s, spansApart cs c d = true) ∧ totalChunks s + c.chunkCount ≤ 1024
      (¬ named → componentVerdict cs r s = .error .malformed) ∧
      (named → ¬ placed → componentVerdict cs r s = .error .extent) ∧
      (named → placed → recognized cs = false → rollsBack s.bsv.image c = true →
        componentVerdict cs r s = .error .rollback) ∧
      (named → placed → (recognized cs = true ∨ rollsBack s.bsv.image c = false) →
        halvesBelow (field32 r.body 16) = false → componentVerdict cs r s = .error .codeRange)) ∧
    (r.body.length ≠ 8 → closeVerdict cs r s = .error .malformed) ∧
    (r.body.length = 8 →
      (halvesBelow (field32 r.body 4) = false → closeVerdict cs r s = .error .codeRange) ∧
      (halvesBelow (field32 r.body 4) = true → (field16 r.body 0).toNat ≠ s.stm.accepted →
        closeVerdict cs r s = .error .closeCount) ∧
      (halvesBelow (field32 r.body 4) = true → (field16 r.body 0).toNat = s.stm.accepted →
        s.stm.digest.map code32 ≠ some (field32 r.body 4) → closeVerdict cs r s = .error .closeDigest) ∧
      (halvesBelow (field32 r.body 4) = true → (field16 r.body 0).toNat = s.stm.accepted →
        s.stm.digest.map code32 = some (field32 r.body 4) →
        ((∃ k < cs.compCount, componentAt s k = none) ∨ ∃ c ∈ s.ckt.chunks, c.expected = none) →
        closeVerdict cs r s = .error .incomplete)) ∧
    (∀ n : Nat, n = (byteAt r.body 1).toNat →
      (¬ (1 ≤ n ∧ n ≤ 61 ∧ r.body.length = 4 + 4 * n) → codesVerdict cs r s = .error .malformed) ∧
      (1 ≤ n → n ≤ 61 → r.body.length = 4 + 4 * n →
        ((cs.compCount ≤ (byteAt r.body 0).toNat ∨ componentAt s (byteAt r.body 0).toNat = none) →
          codesVerdict cs r s = .error .malformed) ∧
        (∀ c, componentAt s (byteAt r.body 0).toNat = some c → (byteAt r.body 0).toNat < cs.compCount →
          (c.chunkCount < (field16 r.body 2).toNat + n → codesVerdict cs r s = .error .malformed) ∧
          ((field16 r.body 2).toNat + n ≤ c.chunkCount → (∃ i < n, halvesBelow (field32 r.body (4 + 4 * i)) = false) →
            codesVerdict cs r s = .error .codeRange) ∧
          ((field16 r.body 2).toNat + n ≤ c.chunkCount → (∀ i < n, halvesBelow (field32 r.body (4 + 4 * i)) = true) →
            (∃ i < n, ∃ held, expectedOf s { comp := (byteAt r.body 0).toNat, chunk := (field16 r.body 2).toNat + i } =
              some held ∧ held ≠ field32 r.body (4 + 4 * i)) →
            codesVerdict cs r s = .error .codeConflict))))

/-- R63 to R65, R84: a CODES record that passes the gate and the five checks gives each chunk of its run that holds no
code its code, makes it DIRTY if it was UNCODED, and queues it; the last code of a component has the component code
checked, and a mismatch rejects the set with COMPONENT_CODE, the codes staying and the record not counted. -/
def Obligations.CodesAreStored : Prop :=
  ∀ (s : State) (r : Record) (cs : CurrentSet) (k n first fresh : Nat) (c : Component)
    (codeFor : ChunkRef → Option Word32) (takes : Chunk → Bool) (chunks : List Chunk), PassesGate s r cs →
    k = (byteAt r.body 0).toNat → n = (byteAt r.body 1).toNat → first = (field16 r.body 2).toNat →
    1 ≤ n → n ≤ 61 → r.body.length = 4 + 4 * n → k < cs.compCount → k < 8 → componentAt s k = some c →
    first + n ≤ c.chunkCount → (∀ i < n, halvesBelow (field32 r.body (4 + 4 * i)) = true) →
    (∀ i < n, ∀ held, expectedOf s { comp := k, chunk := first + i } = some held → held = field32 r.body (4 + 4 * i)) →
    s.ckt.chunks.map Chunk.ref = (s.ckt.chunks.filter fun x => x.ref.comp < k).map Chunk.ref ++
      ((List.range c.chunkCount).map fun i => { comp := k, chunk := i }) ++
      (s.ckt.chunks.filter fun x => k < x.ref.comp).map Chunk.ref →
    (s.ckt.chunks.map Chunk.ref).Nodup →
    (∀ x, codeFor x = if x.comp = k ∧ first ≤ x.chunk ∧ x.chunk < first + n then
      some (field32 r.body (4 + 4 * (x.chunk - first))) else none) →
    (∀ x, takes x = true ↔ x.expected = none ∧ codeFor x.ref ≠ none) →
    chunks = s.ckt.chunks.map (fun x => if takes x then
      { x with expected := codeFor x.ref, state := if x.state = .uncoded then .dirty else x.state } else x) →
    fresh = (s.ckt.chunks.filter takes).length →
    let coded : State := { s with ckt := {
      chunks := chunks
      queue := s.ckt.queue ++ (s.ckt.chunks.filter fun x => takes x && x.state == .uncoded).map Chunk.ref } }
    let finished : Prop := fresh ≠ 0 ∧ c.coded + fresh = c.chunkCount ∧ c.checked = false
    let agrees : Prop := componentCode c.ident
      ((chunks.filter fun x => x.ref.comp = k).map fun x => x.expected.getD 0) = c.code
    let counted (d : Component) : State := { coded with stm := { s.stm with
      comps := s.stm.comps.setIfInBounds k (some d)
      accepted := s.stm.accepted + 1
      digest := s.stm.digest.map fun l => laneStep l r.check.toNat } }
    (¬ finished → exec (.codesRecord r) s = .next (counted { c with coded := c.coded + fresh })) ∧
    (finished → agrees →
      exec (.codesRecord r) s = .next (counted { c with coded := c.coded + fresh, checked := true })) ∧
    (finished → ¬ agrees → ∃ t, exec (.codesRecord r) s = .next t ∧
      t.stm = { s.stm with
        comps := s.stm.comps.setIfInBounds k (some { c with coded := c.coded + fresh })
        setState := .rejected, reason := some .componentCode } ∧
      t.ckt = { chunks := chunks.map (fun x => if x.state = .scanning then { x with state := .dirty } else x), queue := [] } ∧
      t.scan = none ∧ t.bsv = s.bsv ∧ t.lgp = s.lgp ∧
      t.rpu = s.rpu.post .setRejected cs.seq (detailBytes 6 (byteAt r.body 0)))

/-- R66, R67: a CLOSE that passes the gate and the five checks makes the set READY with SET_READY where every chunk is
GOOD, and CLOSED otherwise; it is neither counted nor folded. -/
def Obligations.CloseEndsTheDeclaration : Prop :=
  ∀ (s : State) (r : Record) (cs : CurrentSet), PassesGate s r cs → r.body.length = 8 →
    halvesBelow (field32 r.body 4) = true → (field16 r.body 0).toNat = s.stm.accepted →
    (∃ l, s.stm.digest = some l ∧ field32 r.body 4 = BitVec.ofNat 32 (l.b * 65536 + l.a)) →
    (∀ k < cs.compCount, componentAt s k ≠ none) → (∀ c ∈ s.ckt.chunks, c.expected ≠ none) →
    ((∀ c ∈ s.ckt.chunks, c.state = .good) →
      exec (.closeRecord r) s = .next { s with
        stm := { s.stm with setState := .ready }
        rpu := s.rpu.post .setReady cs.seq (detailCount s.ckt.chunks.length) }) ∧
    ((∃ c ∈ s.ckt.chunks, c.state ≠ .good) →
      exec (.closeRecord r) s = .next { s with stm := { s.stm with setState := .closed } })

/-- R68, R117, R119, R122: the checks of a COMMIT, in their order; one that passes makes the set COMMITTING with a commit
entry write in flight, or, at generation FFFFFFFEh, fails at once with JOURNAL_FAILED and SET_READY, the set READY. -/
def Obligations.CommitIsCheckedAndBegun : Prop :=
  ∀ (s : State) (r : Record), Handed s →
    (r.body ≠ [] → exec (.commitRecord r) s = refusedRecord 5 .malformed r s) ∧
    (r.body = [] → s.stm.set = none → exec (.commitRecord r) s = refusedRecord 5 .noSet r s) ∧
    (∀ cs, r.body = [] → s.stm.set = some cs →
      (r.seq ≠ cs.seq → exec (.commitRecord r) s = refusedRecord 5 .wrongSequence r s) ∧
      (r.seq = cs.seq →
        (s.bsv.image.boot ≠ .stable → exec (.commitRecord r) s = refusedRecord 5 .wrongState r s) ∧
        (s.bsv.image.boot = .stable →
          (s.stm.setState ≠ .ready → exec (.commitRecord r) s = refusedRecord 5 .notReady r s) ∧
          (s.stm.setState = .ready →
            (s.ppc.presence ≠ .present → exec (.commitRecord r) s = refusedRecord 5 .noStore r s) ∧
            (s.ppc.presence = .present →
              (s.bsv.inFlight ≠ none → exec (.commitRecord r) s = refusedRecord 5 .busy r s) ∧
              (s.bsv.inFlight = none →
                (s.bsv.image.generation ≠ 0xFFFFFFFE#32 → exec (.commitRecord r) s = .next { s with
                  stm := { s.stm with setState := .committing }
                  bsv := writing s .commit { freshEntry s.bsv.image with
                    boot := .trial, trial := cs.target, trialSeq := cs.seq, attempts := cs.attempts - 1 } }) ∧
                (s.bsv.image.generation = 0xFFFFFFFE#32 → exec (.commitRecord r) s = .next { s with
                  bsv := { s.bsv with retryWait := none }
                  rpu := (s.rpu.post .journalFailed cs.seq (detailBytes 1 0)).post .setReady cs.seq
                    (detailCount s.ckt.chunks.length) })))))))

/-- R70, R128: the checks of a CONFIRM, in their order; one that passes stops the confirm timer and puts a confirmation
entry in flight that commits the trial slot and sequence and takes the set's components as its pairs. R117, R119: at
generation FFFFFFFEh the write fails at once, and the timer restarts, or under a demand the revert begins and fails at
once likewise. -/
def Obligations.ConfirmIsCheckedAndBegun : Prop :=
  ∀ (s : State) (r : Record), Handed s →
    let ours : Prop := ∃ cs, s.stm.set = some cs ∧ cs.seq = s.bsv.image.trialSeq ∧ s.stm.setState = .trial
    (r.body ≠ [] → exec (.confirmRecord r) s = refusedRecord 6 .malformed r s) ∧
    (r.body = [] → s.bsv.image.boot ≠ .trial → exec (.confirmRecord r) s = refusedRecord 6 .wrongState r s) ∧
    (r.body = [] → s.bsv.image.boot = .trial → r.seq ≠ s.bsv.image.trialSeq →
      exec (.confirmRecord r) s = refusedRecord 6 .wrongSequence r s) ∧
    (r.body = [] → s.bsv.image.boot = .trial → r.seq = s.bsv.image.trialSeq →
      (¬ ours → exec (.confirmRecord r) s = refusedRecord 6 .noSet r s) ∧
      (ours → s.bsv.inFlight ≠ none → exec (.confirmRecord r) s = refusedRecord 6 .busy r s) ∧
      (ours → s.bsv.inFlight = none → s.bsv.image.generation ≠ 0xFFFFFFFE#32 →
        exec (.confirmRecord r) s = .next { s with bsv := { writing s .confirmation { freshEntry s.bsv.image with
            boot := .stable, committed := s.bsv.image.trial, committedSeq := s.bsv.image.trialSeq, attempts := 0
            pairs := s.stm.comps.map fun c => match c with
              | some c => { ident := c.ident, version := c.version }
              | none => { ident := 0xFFFF#16, version := 0xFFFFFFFF#32 } } with
          confirmTimer := none, confirmTaken := true } }) ∧
      (ours → s.bsv.inFlight = none → s.bsv.image.generation = 0xFFFFFFFE#32 →
        (s.bsv.demand = none → exec (.confirmRecord r) s = .next { s with
          bsv := { s.bsv with
            retryWait := none, confirmTaken := true, confirmTimer := some (2 ^ s.settings.confirmExp * 250) }
          rpu := s.rpu.post .journalFailed (defaultSeq s) (detailBytes 3 0) }) ∧
        (s.bsv.demand ≠ none → exec (.confirmRecord r) s = .next { s with
          bsv := { revertSpent s s.bsv.demand with confirmTaken := true }
          rpu := (s.rpu.post .journalFailed (defaultSeq s) (detailBytes 3 0)).post .journalFailed (defaultSeq s)
            (detailBytes 4 0) })))

/-- R71, R75, R129, R130: an ABANDON of the trial set is a revert demand, which begins the revert at once where no write
is in flight, waits where one is, and is refused with BUSY where a demand is held; an ABANDON of a set being prepared
makes it ABANDONED; the other cases are refused. R117, R119, R131: at generation FFFFFFFEh the revert entry fails at once
and waits for its retry. -/
def Obligations.AbandonRevertsOrDiscards : Prop :=
  ∀ (s : State) (r : Record), Handed s →
    let trialSet : Prop := s.bsv.image.boot = .trial ∧ r.seq = s.bsv.image.trialSeq
    (r.body ≠ [] → exec (.abandonRecord r) s = refusedRecord 7 .malformed r s) ∧
    (r.body = [] → trialSet →
      (s.bsv.demand ≠ none → exec (.abandonRecord r) s = refusedRecord 7 .busy r s) ∧
      (s.bsv.demand = none → s.bsv.inFlight ≠ none →
        exec (.abandonRecord r) s = .next { s with bsv := { s.bsv with demand := some .abandoned } }) ∧
      (s.bsv.demand = none → s.bsv.inFlight = none → s.bsv.image.generation ≠ 0xFFFFFFFE#32 →
        exec (.abandonRecord r) s = .next { s with bsv := { writing s .revert { freshEntry s.bsv.image with
            boot := .stable, lastReverted := s.bsv.image.trialSeq, attempts := 0 } with
          demand := some .abandoned, confirmTimer := none, mrst := some (s.bsv.mrst.getD s.now)
          releaseDue := none } }) ∧
      (s.bsv.demand = none → s.bsv.inFlight = none → s.bsv.image.generation = 0xFFFFFFFE#32 →
        exec (.abandonRecord r) s = .next { s with
          bsv := revertSpent s (some .abandoned)
          rpu := s.rpu.post .journalFailed (defaultSeq s) (detailBytes 4 0) })) ∧
    (r.body = [] → ¬ trialSet →
      (s.stm.set = none → exec (.abandonRecord r) s = refusedRecord 7 .noSet r s) ∧
      (∀ cs, s.stm.set = some cs →
        (r.seq ≠ cs.seq → exec (.abandonRecord r) s = refusedRecord 7 .wrongSequence r s) ∧
        (r.seq = cs.seq → preparing s.stm.setState = false →
          exec (.abandonRecord r) s = refusedRecord 7 .wrongState r s) ∧
        (r.seq = cs.seq → preparing s.stm.setState = true →
          exec (.abandonRecord r) s = .next { s with
            stm := { s.stm with setState := .abandoned }
            ckt := {
              chunks := s.ckt.chunks.map fun c => if c.state = .scanning then { c with state := .dirty } else c
              queue := [] }
            scan := none
            trc := if s.trc.flash.map FlashTxn.owner = some .scan then { s.trc with flash := none } else s.trc })))

/-- R72, R149, R121: a CLEAR of body length 1 empties the event list and the overflow flag on its bit 0 and sets the
restart cause to NONE on its bit 1, in every set state; any other length is refused. -/
def Obligations.ClearActsOnItsFlags : Prop :=
  ∀ (s : State) (r : Record), Handed s →
    (r.body.length ≠ 1 → exec (.clearRecord r) s = refusedRecord 8 .malformed r s) ∧
    (∀ flags : Byte, r.body = [flags] →
      exec (.clearRecord r) s = .next { s with
        rpu := if flags.getLsbD 0 then { s.rpu with events := [], overflow := false } else s.rpu
        bsv := if flags.getLsbD 1 then { s.bsv with restart := .none } else s.bsv })

/-! ### Events (spec 09) -/

/-- R147, R148: a posting equal to the newest entry in kind and detail is absorbed by it; any other is appended while the
list holds fewer than 32 entries and else only sets the overflow flag. R162: a detail holds an address in bits 0 to 23, with
a class in bits 24 to 31; or bytes from byte 0 on; or a component index in byte 0 and a chunk index in bytes 2 and 3; or a
chunk count in bytes 0 and 1; and 0 elsewhere. -/
def Obligations.PostingCoalescesAppendsOrDrops : Prop :=
  (∀ a : Addr, (detailAddr a).toNat = a.toNat) ∧
  (∀ (c : CmdClass) (a : Addr), (detailWrite c a).toNat = a.toNat + 2 ^ 24 * cmdClassCode c) ∧
  (∀ b0 b1 : Byte, (detailBytes b0 b1).toNat = b0.toNat + 2 ^ 8 * b1.toNat) ∧
  (∀ r : ChunkRef, r.comp < 8 → r.chunk < 1024 → (detailChunk r).toNat = r.comp + 2 ^ 16 * r.chunk) ∧
  (∀ n < 65536, (detailCount n).toNat = n) ∧
  ∀ (u : Rpu) (kind : EventKind) (seq : Word16) (detail : Word32),
    (∀ older newest, u.events = older ++ [newest] → newest.kind = kind → newest.detail = detail →
      u.post kind seq detail = { u with
        events := older ++ [{ newest with count := if newest.count < 255 then newest.count + 1 else 255, seq := seq }] }) ∧
    ((∀ older newest, u.events = older ++ [newest] → ¬ (newest.kind = kind ∧ newest.detail = detail)) →
      (u.events.length < 32 → u.post kind seq detail = { u with
        events := u.events ++ [{ kind := kind, count := 1, seq := seq, detail := detail }] }) ∧
      (32 ≤ u.events.length → u.post kind seq detail = { u with overflow := true }))

/-- R147, R149, R154: entries leave the event list only all together: every command keeps each entry's kind and detail in
its place, so that out of STARTING an asserted ALERT stays asserted, or leaves the list empty and ALERT released; only
POWER_ON and the commands by which a CLEAR can complete do the latter. -/
def Obligations.EntriesStayUntilCleared : Prop :=
  ∀ (s t : State) (i : Instr), exec i s = .next t →
    (s.rpu.events.map Event.key <+: t.rpu.events.map Event.key ∧
      (alertAsserted s = true → t.sup.part ≠ .starting → alertAsserted t = true)) ∨
    (t.rpu.events = [] ∧ t.rpu.overflow = false ∧ alertAsserted t = false ∧
      (i = .powerOn ∨ (∃ r, i = .clearRecord r) ∨ ∃ b, i = .programDataByte b))

/-! ### The flash port (spec 01) -/

/-- R11, R13: the cleanup takes the free port ahead of every other claimant with the first WRITE_DISABLE code, and its
completion releases FCS and clears the flag. -/
def Obligations.CleanupRunsAndClears : Prop :=
  (∀ (s : State) (e : CmdEntry), s.sup.part ≠ .starting →
    (s.trc.txn.isOpen = false ∨ s.trc.txn.inStarting = true) → s.trc.flash = none → s.trc.cleanup = true →
    firstEntry s.settings .writeDisable = some e →
    exec .writeDisableCleanup s = .next { s with trc := { s.trc with
      flash := some { owner := .cleanup, code := e.code, addr := none, dummies := 0 } } } ∧
    exec .statusPoll s = .next s ∧ exec .scanStart s = .next s ∧ exec .scanResume s = .next s) ∧
  (∀ (s : State) (f : FlashTxn), s.trc.flash = some f → f.owner = .cleanup →
    exec .cleanupComplete s = .next { s with trc := { s.trc with flash := none, cleanup := false } })

/-- R15, R16: with FLASH_BUSY set a poll takes the free port: out of STARTING while no cleanup is pending; in STARTING
(R12, R18) in the status check and while the rebuild reads wait for it, and with STUCK set too once after each rebuild
read, a read having the first turn (that turn, and polls at any other step of a start-up, are the model's: log 28). With
FLASH_BUSY clear there is no poll. A status byte of the poll, or of a forwarded STATUS_READ, ends the period where its busy bit is clear, begins one
of kind erase at address 000000h where it is set and none ran, and else leaves the period as it stands. -/
def Obligations.StatusBytesTrackTheFlash : Prop :=
  (∀ (s : State) (e : CmdEntry),
    (s.trc.txn.isOpen = false ∨ s.trc.txn.inStarting = true) → s.trc.flash = none → s.trc.busy ≠ none →
    firstEntry s.settings .statusRead = some e →
    ((s.sup.part ≠ .starting ∧ s.trc.cleanup = false) ∨
      (s.sup.part = .starting ∧ (s.sup.step ≠ .rebuild ∨ s.trc.stuck = false ∨ s.lgp.pollOwed = true))) →
    exec .statusPoll s = .next { s with trc := { s.trc with
      flash := some { owner := .poll, code := e.code, addr := none, dummies := e.dummies } } }) ∧
  (∀ s : State, (s.trc.busy = none ∨
      (s.sup.part = .starting ∧ s.sup.step = .rebuild ∧ s.trc.stuck = true ∧ s.lgp.pollOwed = false)) →
    exec .statusPoll s = .next s) ∧
  (∀ (s : State) (b : Byte) (polled : Bool),
    (polled = true ∧ (∃ f, s.trc.flash = some f ∧ f.owner = .poll)) ∨
      (polled = false ∧ (∃ f, s.trc.flash = some f ∧ f.owner = .upstream) ∧ s.trc.txn.isOpen = true ∧
        s.trc.txn.inStarting = false ∧ s.trc.txn.cls = some .statusRead ∧ s.trc.txn.disposition = some .forward) →
    exec (.statusByte b) s = .next { s with
      trc := { s.trc with
        flash := if polled then none else s.trc.flash
        busy := if b.getLsbD s.settings.busyBit then
            some (s.trc.busy.getD { since := s.now, kind := .erase, addr := 0 }) else none
        stuck := if b.getLsbD s.settings.busyBit then s.trc.stuck
          else if s.trc.busy = none then s.trc.stuck else false }
      lgp := if polled then { s.lgp with pollOwed := false } else s.lgp })

/-- R17: when FLASH_BUSY has outlasted its limit, 2^p ms for a program and 2^e ms for an erase, STUCK is set and
FLASH_STUCK is posted with the period's start address. (The clock stands beyond the limit: log 2.) -/
def Obligations.BusyLimitSetsStuck : Prop :=
  ∀ (s : State) (p : BusyPeriod) (limit : Nat), s.trc.busy = some p → s.trc.stuck = false →
    limit = (match p.kind with | .program => 2 ^ s.settings.progExp | .erase => 2 ^ s.settings.eraseExp) →
    ∃ t, exec .busyLimitExpiry s = .next t ∧ t.now = max s.now (p.since + limit + 1) ∧
      t.trc = { s.trc with stuck := true } ∧
      t.rpu = s.rpu.post .flashStuck (defaultSeq s) (detailAddr p.addr) ∧
      t.bsv = { s.bsv with confirmTimer := s.bsv.confirmTimer.map fun rest => rest - (t.now - s.now) } ∧
      t.lgp = s.lgp ∧ t.stm = s.stm ∧ t.ckt = s.ckt ∧ t.scan = s.scan ∧ t.sup = s.sup ∧ t.ppc = s.ppc ∧
      t.settings = s.settings

/-! ### Scans (spec 06) -/

/-- R85, R96, R104, R105, R107: with the queue served and the port free of every earlier claimant a scan of the head
chunk begins with the first READ code at the chunk's start address, the chunk SCANNING and the lanes seeded; a context
held is resumed at twice its word offset. The read sends on FDO the code, the three address bytes, most significant first,
and as many dummy bytes as the entry counts, of any value (the spec gives none: log 33). A byte short of the chunk's last is held as a low byte, or folded with the held
one; the chunk's last byte makes SCAN_WORD the same event as SCAN_COMPLETE (the model's choice, log 6), which no other
byte is. -/
def Obligations.ScansStartResumeAndFold : Prop :=
  (∀ (s : State) (e : CmdEntry) (cs : CurrentSet) (c : Component) (r : ChunkRef) (start : Nat), served s = true →
    (s.trc.txn.isOpen = false ∨ s.trc.txn.inStarting = true) → s.trc.flash = none → s.trc.cleanup = false →
    s.trc.busy = none → firstEntry s.settings .read = some e → s.stm.set = some cs → componentAt s r.comp = some c →
    start = slotBase s.settings cs.target + c.offset + r.chunk * 2 ^ cs.chunkExp →
    (∀ rest, s.scan = none → s.ckt.queue = r :: rest →
      exec .scanStart s = .next { s with
        ckt := { chunks := s.ckt.chunks.map fun x => if x.ref = r then { x with state := .scanning } else x
                 queue := rest }
        scan := some { ref := r, offset := 0, lanes := { a := 1 + r.chunk, b := c.ident.toNat % 65521 }, held := none }
        trc := { s.trc with
          flash := some { owner := .scan, code := e.code, addr := some (BitVec.ofNat 24 start), dummies := e.dummies } } }) ∧
    (∀ x, s.scan = some x → x.ref = r →
      exec .scanResume s = .next { s with trc := { s.trc with
        flash := some { owner := .scan, code := e.code, addr := some (BitVec.ofNat 24 (start + 2 * x.offset)),
                        dummies := e.dummies } } })) ∧
  (∀ (code : Byte) (address dummies : Nat) (dummy : Nat → Byte), address < 2 ^ 24 →
    flashBytes { owner := .scan, code := code, addr := some (BitVec.ofNat 24 address), dummies := dummies } dummy =
      [code, BitVec.ofNat 8 (address / 65536), BitVec.ofNat 8 (address / 256 % 256), BitVec.ofNat 8 (address % 256)] ++
        (List.range dummies).map dummy) ∧
  (∀ (s : State) (b : Byte) (f : FlashTxn) (x : ScanContext) (cs : CurrentSet) (c : Component) (len position : Nat),
    s.trc.flash = some f → f.owner = .scan → s.scan = some x → s.stm.set = some cs →
    componentAt s x.ref.comp = some c →
    len = (if x.ref.chunk + 1 = c.chunkCount then c.length - (c.chunkCount - 1) * 2 ^ cs.chunkExp
      else 2 ^ cs.chunkExp) →
    position = 2 * x.offset + (if x.held = none then 0 else 1) →
    (position + 1 ≠ len → x.held = none →
      exec (.scanWord b) s = .next { s with scan := some { x with held := some b } }) ∧
    (∀ low, position + 1 ≠ len → x.held = some low →
      exec (.scanWord b) s = .next { s with
        scan := some { x with
          offset := x.offset + 1, lanes := laneStep x.lanes (low.toNat + 256 * b.toNat), held := none } }) ∧
    (position + 1 ≠ len → exec (.scanComplete b) s = .next s) ∧
    (position + 1 = len → exec (.scanWord b) s = exec (.scanComplete b) s))

/-- R108, R86, R87, R74, R129: the chunk's last byte folds the last word (FFh as the high byte of an odd one) and hands
GOOD or BAD. In RECEIVING, CLOSED and READY a set all GOOD in CLOSED becomes READY, and a written BAD chunk is counted,
posts CHUNK_BAD and, at the mismatch threshold, rejects the set. In TRIAL and INSTALLED a BAD chunk posts HEALTH_BAD, in
TRIAL with a revert demand DAMAGED unless one is held (at generation FFFFFFFEh its write fails at once: R117, R119). In
COMMITTING, which no outcome reaches, the chunk takes the outcome's state (the model's choice, log 24). -/
def Obligations.ScanOutcomesAreApplied : Prop :=
  ∀ (s : State) (b : Byte) (f : FlashTxn) (x : ScanContext) (cs : CurrentSet) (c : Component) (k : Chunk) (len : Nat)
    (last : Lanes), s.trc.flash = some f → f.owner = .scan → s.scan = some x → s.stm.set = some cs →
    componentAt s x.ref.comp = some c → k ∈ s.ckt.chunks → k.ref = x.ref → (s.ckt.chunks.map Chunk.ref).Nodup →
    len = (if x.ref.chunk + 1 = c.chunkCount then c.length - (c.chunkCount - 1) * 2 ^ cs.chunkExp
      else 2 ^ cs.chunkExp) →
    2 * x.offset + (if x.held = none then 0 else 1) + 1 = len →
    last = laneStep x.lanes (match x.held with
      | some low => low.toNat + 256 * b.toNat
      | none => b.toNat + 256 * 255) →
    let outcome (st : ChunkState) : State := { s with
      scan := none, trc := { s.trc with flash := none }
      ckt := { s.ckt with chunks := s.ckt.chunks.map fun y => if y.ref = k.ref then { y with state := st } else y } }
    let good : Prop := k.expected = some (code32 last)
    let counted : State := { outcome .bad with
      ckt := { s.ckt with chunks := s.ckt.chunks.map fun y =>
        if y.ref = k.ref then { y with state := .bad, mismatches := min 15 (y.mismatches + 1) } else y }
      stm := { s.stm with mismatchTotal := min 65535 (s.stm.mismatchTotal + 1) }
      rpu := s.rpu.post .chunkBad cs.seq (detailChunk k.ref) }
    let capped : Prop := s.settings.threshold ≠ 0 ∧ s.settings.threshold ≤ min 65535 (s.stm.mismatchTotal + 1)
    let sick : State := { outcome .bad with rpu := s.rpu.post .healthBad cs.seq (detailChunk k.ref) }
    (preparing s.stm.setState = true →
      (good → ¬ (s.stm.setState = .closed ∧ ∀ y ∈ s.ckt.chunks, y.ref ≠ k.ref → y.state = .good) →
        exec (.scanComplete b) s = .next (outcome .good)) ∧
      (good → s.stm.setState = .closed → (∀ y ∈ s.ckt.chunks, y.ref ≠ k.ref → y.state = .good) →
        exec (.scanComplete b) s = .next { outcome .good with
          stm := { s.stm with setState := .ready }
          rpu := s.rpu.post .setReady cs.seq (detailCount s.ckt.chunks.length) }) ∧
      (¬ good → k.written = false → exec (.scanComplete b) s = .next (outcome .bad)) ∧
      (¬ good → k.written = true → ¬ capped → exec (.scanComplete b) s = .next counted) ∧
      (¬ good → k.written = true → capped → exec (.scanComplete b) s = .next { counted with
        stm := { counted.stm with setState := .rejected, reason := some .mismatches }
        ckt := { chunks := counted.ckt.chunks.map fun y => if y.state = .scanning then { y with state := .dirty } else y
                 queue := [] }
        rpu := counted.rpu.post .setRejected cs.seq (detailBytes (byteOf (rejectCode .mismatches)) 0xFF#8) })) ∧
    ((s.stm.setState = .trial ∨ s.stm.setState = .installed) → good →
      exec (.scanComplete b) s = .next (outcome .good)) ∧
    (s.stm.setState = .installed → ¬ good → exec (.scanComplete b) s = .next sick) ∧
    (s.stm.setState = .trial → ¬ good →
      (s.bsv.demand ≠ none → exec (.scanComplete b) s = .next sick) ∧
      (s.bsv.demand = none → s.bsv.inFlight ≠ none →
        exec (.scanComplete b) s = .next { sick with bsv := { s.bsv with demand := some .damaged } }) ∧
      (s.bsv.demand = none → s.bsv.inFlight = none → s.bsv.image.generation ≠ 0xFFFFFFFE#32 →
        exec (.scanComplete b) s = .next { sick with bsv := { writing s .revert { freshEntry s.bsv.image with
            boot := .stable, lastReverted := s.bsv.image.trialSeq, attempts := 0 } with
          demand := some .damaged, confirmTimer := none, mrst := some (s.bsv.mrst.getD s.now)
          releaseDue := none } }) ∧
      (s.bsv.demand = none → s.bsv.inFlight = none → s.bsv.image.generation = 0xFFFFFFFE#32 →
        exec (.scanComplete b) s = .next { sick with
          bsv := revertSpent s (some .damaged), sup := supSpent s
          rpu := sick.rpu.post .journalFailed cs.seq (detailBytes 4 0) })) ∧
    (s.stm.setState = .committing →
      (good → exec (.scanComplete b) s = .next (outcome .good)) ∧
      (¬ good → exec (.scanComplete b) s = .next (outcome .bad)))

/-! ### The journal (spec 07) -/

/-- R118, R120, R121, R123, R125, R128, R130: an entry that lands becomes the journal image at the next position. A
commit entry asserts MRST, makes the set TRIAL and posts COMMIT_DONE; a confirmation entry makes it INSTALLED, posts
CONFIRMED and drops a demand; an attempt entry lets the start-up go on to the rebuild, in RUN lets MRST be released or,
under a demand, begins the revert (at generation FFFFFFFEh its write fails at once: R117, R119); a revert entry posts
TRIAL_REVERTED with the reason of the demand held, drops the demand and makes a TRIAL set REVERTED. -/
def Obligations.JournalEntriesLand : Prop :=
  ∀ (s : State) (entry : JournalEntry),
    (InFlight s .commit entry →
      exec .commitEntryLands s = .next { s with
        bsv := { landed s.bsv entry with
          mrst := some (s.bsv.mrst.getD s.now), releaseDue := some .commitLanded, confirmTaken := false
          restart := .commit }
        stm := { s.stm with setState := if s.stm.setState = .committing then .trial else s.stm.setState }
        rpu := s.rpu.post .commitDone entry.trialSeq
          (detailBytes (byteOf (slotCode entry.trial)) (byteOf entry.attempts)) }) ∧
    (InFlight s .confirmation entry →
      exec .confirmationEntryLands s = .next { s with
        bsv := { landed s.bsv entry with demand := none }
        stm := { s.stm with setState := if s.stm.setState = .trial then .installed else s.stm.setState }
        rpu := s.rpu.post .confirmed entry.trialSeq (detailBytes (byteOf (slotCode entry.committed)) 0) }) ∧
    (InFlight s .attempt entry →
      (s.sup.part = .starting → exec .attemptEntryLands s = .next { s with
        bsv := landed s.bsv entry, sup := { s.sup with step := .rebuild } }) ∧
      (s.sup.part ≠ .starting → s.bsv.demand = none → exec .attemptEntryLands s = .next { s with
        bsv := { landed s.bsv entry with releaseDue := some .attemptLanded, confirmTaken := false } }) ∧
      (s.sup.part ≠ .starting → s.bsv.demand ≠ none → entry.generation ≠ 0xFFFFFFFE#32 →
        exec .attemptEntryLands s = .next { s with
          bsv := { landed s.bsv entry with
            inFlight := some { kind := .revert, since := s.now, entry := { freshEntry entry with
              boot := .stable, lastReverted := entry.trialSeq, attempts := 0 } }
            confirmTimer := none, mrst := some (s.bsv.mrst.getD s.now), releaseDue := none } }) ∧
      (s.sup.part ≠ .starting → s.bsv.demand ≠ none → entry.generation = 0xFFFFFFFE#32 →
        exec .attemptEntryLands s = .next { s with
          bsv := revertSpent { s with bsv := landed s.bsv entry } s.bsv.demand
          rpu := s.rpu.post .journalFailed (defaultSeq s) (detailBytes 4 0) })) ∧
    (∀ reason, InFlight s .revert entry → s.bsv.demand = some reason →
      exec .revertEntryLands s = .next { s with
        bsv := { landed s.bsv entry with
          restart := .revert, demand := none
          releaseDue := if s.sup.part = .starting then s.bsv.releaseDue else some .revertLanded
          confirmTaken := if s.sup.part = .starting then s.bsv.confirmTaken else false }
        sup := if s.sup.part = .starting then { s.sup with step := .rebuild } else s.sup
        stm := { s.stm with setState := if s.stm.setState = .trial then .reverted else s.stm.setState }
        ckt := if s.stm.setState = .trial then {
            chunks := s.ckt.chunks.map fun c => if c.state = .scanning then { c with state := .dirty } else c
            queue := [] } else s.ckt
        scan := if s.stm.setState = .trial then none else s.scan
        trc := if s.stm.setState = .trial ∧ s.trc.flash.map FlashTxn.owner = some .scan then
          { s.trc with flash := none } else s.trc
        rpu := s.rpu.post .trialReverted entry.trialSeq
          (detailBytes (byteOf (revertCode reason)) 0) })

/-- R118, R119, R123, R125, R128, R131: a write fails at the step its reply shows, at the completion poll once 20 ms have
passed (counted from the write's start, the model's choice, log 2): JOURNAL_FAILED is posted and the write cleared. A
failed commit returns the set to READY; a failed attempt begins the revert, with the reason ATTEMPTS unless a demand is
held; a failed confirmation restarts the confirm timer, or begins a revert held back; a revert so begun at generation
FFFFFFFEh fails at once; a failed revert waits for its retry in RUN, and at a start-up drops the demand, marks the part
for DEGRADED and goes on to the rebuild. The failing steps are coded 0 for a write that fails at once, 1, 4 and 5. -/
def Obligations.JournalWritesFail : Prop :=
  [FailStep.atOnce, .statusRead, .completionPoll, .readBack].map failStepCode = [0, 1, 4, 5] ∧
  ∀ (s t : State) (kind : EntryKind) (entry : JournalEntry) (since : Nat) (step : FailStep) (i : Instr),
    s.bsv.retryWait = none → s.bsv.inFlight = some { kind := kind, entry := entry, since := since } →
    ((t = (if step = .completionPoll then elapse (since + 20 - s.now) s else s) ∧
        ∃ reply, FailsAt (entryBytes entry) reply step ∧
        (kind, i) ∈ [(EntryKind.commit, Instr.commitEntryFails reply), (.attempt, .attemptEntryFails reply),
          (.confirmation, .confirmationEntryFails reply), (.revert, .revertEntryFails reply)]) ∨
      (t = elapse (since + 20 - s.now) s ∧ i = .journalPollTimeout ∧ step = .completionPoll)) →
    let failed : Rpu := s.rpu.post .journalFailed (defaultSeq s)
      (detailBytes (byteOf (entryKindCode kind)) (byteOf (failStepCode step)))
    let reverting (reason : RevertReason) : State := { t with
      rpu := failed
      bsv := { writing t .revert { freshEntry s.bsv.image with
          boot := .stable, lastReverted := s.bsv.image.trialSeq, attempts := 0 } with
        demand := some reason, confirmTimer := none, mrst := some (s.bsv.mrst.getD t.now), releaseDue := none } }
    let spent (reason : RevertReason) : State := { t with
      rpu := failed.post .journalFailed (defaultSeq s) (detailBytes 4 0)
      bsv := revertSpent t (some reason), sup := supSpent t }
    (kind = .commit → s.stm.setState = .committing → exec i s = .next { t with
      bsv := { t.bsv with inFlight := none }
      stm := { s.stm with setState := .ready }
      rpu := failed.post .setReady (defaultSeq s) (detailCount s.ckt.chunks.length) }) ∧
    (kind = .attempt → s.bsv.image.generation ≠ 0xFFFFFFFE#32 →
      exec i s = .next (reverting (s.bsv.demand.getD .attempts))) ∧
    (kind = .attempt → s.bsv.image.generation = 0xFFFFFFFE#32 →
      exec i s = .next (spent (s.bsv.demand.getD .attempts))) ∧
    (kind = .confirmation → s.bsv.demand = none → exec i s = .next { t with
      rpu := failed
      bsv := { t.bsv with inFlight := none, confirmTimer := some (2 ^ s.settings.confirmExp * 250) } }) ∧
    (∀ reason, kind = .confirmation → s.bsv.demand = some reason → s.bsv.image.generation ≠ 0xFFFFFFFE#32 →
      exec i s = .next (reverting reason)) ∧
    (∀ reason, kind = .confirmation → s.bsv.demand = some reason → s.bsv.image.generation = 0xFFFFFFFE#32 →
      exec i s = .next (spent reason)) ∧
    (kind = .revert → s.sup.part ≠ .starting → exec i s = .next { t with
      rpu := failed
      bsv := { t.bsv with
        retryWait := some t.now
        inFlight := some { kind := .revert, since := t.now, entry := { freshEntry s.bsv.image with
          boot := .stable, lastReverted := s.bsv.image.trialSeq, attempts := 0 } } } }) ∧
    (kind = .revert → s.sup.part = .starting → exec i s = .next { t with
      rpu := failed, bsv := { t.bsv with inFlight := none, demand := none }
      sup := { s.sup with markDegraded := true, step := .rebuild } })

/-- R120, R126, R131: a failed revert is tried again 250 ms after its failure; MRST is released 10 ms after its assertion
once its release event has occurred, and the release starts the confirm timer where it hands over a trial that no confirm
request has met since the landing (after an attempt entry too: log 14); the timer's expiry posts TRIAL_TIMEOUT, asserts
MRST and makes a trial start: an attempt entry, or with no attempts left a revert. R117, R119: at generation FFFFFFFEh
each of these writes fails at once. (The clock stands at the time limit, the model's choice: log 2.) -/
def Obligations.RetriesReleasesAndExpiries : Prop :=
  (∀ (s t : State) (since : Nat), s.bsv.retryWait = some since → t = elapse (since + 250 - s.now) s →
    let entry : JournalEntry := { freshEntry s.bsv.image with
      boot := .stable, lastReverted := s.bsv.image.trialSeq, attempts := 0 }
    (s.bsv.image.generation ≠ 0xFFFFFFFE#32 →
      exec .revertRetry s = .next { t with bsv := writing t .revert entry }) ∧
    (s.bsv.image.generation = 0xFFFFFFFE#32 → s.sup.part ≠ .starting →
      exec .revertRetry s = .next { t with
        rpu := s.rpu.post .journalFailed (defaultSeq s) (detailBytes 4 0)
        bsv := { writing t .revert entry with retryWait := some t.now } }) ∧
    (s.bsv.image.generation = 0xFFFFFFFE#32 → s.sup.part = .starting →
      exec .revertRetry s = .next { t with
        rpu := s.rpu.post .journalFailed (defaultSeq s) (detailBytes 4 0)
        bsv := { t.bsv with inFlight := none, retryWait := none, demand := none }, sup := supSpent t })) ∧
  (∀ (s t : State) (since : Nat) (e : ReleaseEvent), s.bsv.mrst = some since → s.bsv.releaseDue = some e →
    t = elapse (since + 10 - s.now) s →
    exec .mrstRelease s = .next { t with bsv := { t.bsv with
      mrst := none, releaseDue := none
      confirmTimer :=
        if (e = .commitLanded ∨ e = .attemptLanded) ∧ s.bsv.image.boot = .trial ∧ s.bsv.confirmTaken = false then
          some (2 ^ s.settings.confirmExp * 250)
        else t.bsv.confirmTimer } }) ∧
  (∀ (s t : State) (rest : Nat), s.bsv.confirmTimer = some rest → t = elapse rest s →
    let expired (kind : EntryKind) (entry : JournalEntry) : State := { t with
      rpu := s.rpu.post .trialTimeout s.bsv.image.trialSeq (detailBytes (byteOf s.bsv.image.attempts) 0)
      bsv := { writing t kind entry with
        confirmTimer := none, mrst := some (s.bsv.mrst.getD (s.now + rest)), releaseDue := none
        restart := .trialTimeout } }
    (s.bsv.image.attempts ≠ 0 → s.bsv.image.generation ≠ 0xFFFFFFFE#32 →
      exec .confirmTimerExpiry s = .next
        (expired .attempt { freshEntry s.bsv.image with attempts := s.bsv.image.attempts - 1 })) ∧
    (∀ entry, s.bsv.image.attempts = 0 → s.bsv.image.generation ≠ 0xFFFFFFFE#32 →
      entry = { freshEntry s.bsv.image with
        boot := .stable, lastReverted := s.bsv.image.trialSeq, attempts := 0 } →
      exec .confirmTimerExpiry s = .next { expired .revert entry with
        bsv := { (expired .revert entry).bsv with demand := some (s.bsv.demand.getD .attempts) } }) ∧
    (s.bsv.image.generation = 0xFFFFFFFE#32 →
      let timedOut : Rpu := s.rpu.post .trialTimeout s.bsv.image.trialSeq (detailBytes (byteOf s.bsv.image.attempts) 0)
      exec .confirmTimerExpiry s = .next { t with
        rpu := (if s.bsv.image.attempts = 0 then timedOut
          else timedOut.post .journalFailed (defaultSeq s) (detailBytes 2 0)).post .journalFailed (defaultSeq s)
            (detailBytes 4 0)
        bsv := { revertSpent t (some (s.bsv.demand.getD .attempts)) with restart := .trialTimeout }
        sup := supSpent t }))

/-! ### The start-up (spec 08) -/

/-- R135, R136, R139, R140, R18: the presence check knows ABSENT by a byte of FFh or after 20 ms, PRESENT by a clear busy
bit, and else polls on. The profile load then judges the image by the tests in their order; DEFAULT and INVALID put the
built-in settings in force and post their events; the flash status check begins with FLASH_BUSY set. With the memory
absent the load gives DEFAULT and NO_STORE and the rebuild is next (NO_STORE posted here: the model's choice, log 15; the
clock at the limit when the presence check times out: the model's choice, log 2). R22: the constraints on a region table.
R139: what the command table must hold. R133, R118: the codes and address bytes that this work and the five steps of an
entry write send on the profile port; no write below 0800h. -/
def Obligations.PresenceAndProfile : Prop :=
  (∀ (rs : List Region) (exponent : Nat),
    let size (r : Region) : Nat := r.limit.toNat + 1 - r.base.toNat
    let below (r : Region) : Prop := r.limit.toNat < 2 ^ (exponent - 12)
    let only (p : RegionKind) : List Region := rs.filter fun r => r.kind = p
    regionsOk rs exponent = true ↔
      (∀ r ∈ rs, r.base.toNat ≤ r.limit.toNat) ∧
      (∃ x y, only (.slot .slot0) = [x] ∧ only (.slot .slot1) = [y] ∧ size x = size y ∧
        (∀ r ∈ [x, y], r.base.toNat % 16 = 0 ∧ size r % 16 = 0 ∧ 16 ≤ size r ∧ size r ≤ 2048 ∧ below r) ∧
        (only .bootView).length ≤ 1 ∧ ∀ r ∈ only .bootView, size r = size x) ∧
      (∃ m, only .manifest = [m] ∧ size m = 4 ∧ below m) ∧
      (only .report).length ≤ 1 ∧ ∀ r ∈ only .report, size r = 1) ∧
  (∀ st : Settings, commandsOk st = true ↔
    (∃ first e rest, st.commands.toList = first ++ some e :: rest ∧ e.cls = .read ∧ e.addrFlag = true ∧
      ∀ x, some x ∈ first → x.cls ≠ .read) ∧
    (∃ e, some e ∈ st.commands.toList ∧ e.cls = .statusRead) ∧
    (∃ e, some e ∈ st.commands.toList ∧ e.cls = .writeDisable)) ∧
  (∀ s : State,
    let sent : List (List Byte) := (profilePort s).map profileBytes
    (s.sup.step = .presence → sent = [[0x05]]) ∧
    (s.sup.step = .profileLoad → sent = if s.ppc.presence = .present then [[0x03, 0x00, 0x00]] else []) ∧
    (s.sup.step = .journalRead → sent = [[0x03, 0x08, 0x00]]) ∧
    (s.sup.step = .finished ∨ s.sup.step = .accounting → ∀ kind entry p, InFlight s kind entry → s.bsv.next = p →
      p < 16 →
      let at_ : List Byte := [BitVec.ofNat 8 (8 + p / 4), BitVec.ofNat 8 (64 * (p % 4))]
      sent = [[0x05], [0x06], 0x02 :: at_ ++ entryBytes entry, [0x05], 0x03 :: at_]) ∧
    (s.bsv.next < 16 → ∀ x ∈ profilePort s, x.command = .write → ∃ a, x.addr = some a ∧ 0x0800 ≤ a.toNat)) ∧
  (∀ (s : State) (b : Byte), s.sup.step = .presence →
    let known (p : Presence) (t : State) : State := { t with
      ppc := { s.ppc with presence := p, pollSince := none }, sup := { s.sup with step := .profileLoad } }
    (b = 0xFF#8 → exec (.presenceCheck b) s = .next (known .absent s)) ∧
    (b.getLsbD 0 = false → exec (.presenceCheck b) s = .next (known .present s)) ∧
    (b.getLsbD 0 = true → b ≠ 0xFF#8 → exec (.presenceCheck b) s = .next { s with
      ppc := { s.ppc with pollSince := some (s.ppc.pollSince.getD s.now) } }) ∧
    (∀ since, s.ppc.pollSince = some since →
      exec .presenceTimeout s = .next (known .absent (elapse (since + 20 - s.now) s)))) ∧
  (∀ (s : State) (image : List Byte), s.sup.step = .profileLoad →
    let img := fit 2048 image
    let count := (field16 img 2).toNat
    let items := itemsOf ((img.drop 4).take count)
    let loaded (st : Settings) (p : ProfileState) (why : Option InvalidReason) (next : StartStep) (rpu : Rpu) : State :=
      { s with
        settings := st, ppc := { s.ppc with profile := p, invalid := why }, sup := { s.sup with step := next }
        trc := { s.trc with busy := some { since := s.now, kind := .erase, addr := 0 }, stuck := false }, rpu := rpu }
    let framed : Prop := byteAt img 0 = 0xA6#8 ∧ byteAt img 1 = 0x01#8 ∧ count ≤ 2042 ∧
      storeCheck (img.take (4 + count)) = field16 img (4 + count)
    let fails (why : InvalidReason) (item : Nat) : Prop :=
      (why = .format ∧ item = 0 ∧ byteAt img 0 = 0xA6#8 ∧ byteAt img 1 ≠ 0x01#8) ∨
      (why = .length ∧ item = 0 ∧ byteAt img 0 = 0xA6#8 ∧ byteAt img 1 = 0x01#8 ∧ 2042 < count) ∨
      (why = .check ∧ item = 0 ∧ byteAt img 0 = 0xA6#8 ∧ byteAt img 1 = 0x01#8 ∧ count ≤ 2042 ∧
        storeCheck (img.take (4 + count)) ≠ field16 img (4 + count)) ∨
      (why = .entry ∧ framed ∧ failingItem items = some item) ∨
      (why = .commands ∧ item = 0 ∧ framed ∧ failingItem items = none ∧ commandsOk (settingsOf items) = false) ∨
      (why = .regions ∧ item = 0 ∧ framed ∧ failingItem items = none ∧ commandsOk (settingsOf items) = true ∧
        regionsOk ((settingsOf items).regions.toList.filterMap id) (settingsOf items).flashExp = false)
    (s.ppc.presence ≠ .present →
      exec (.profileLoad image) s = .next (loaded builtInSettings .default none .rebuild
        ((s.rpu.post .profileDefault (defaultSeq s) (detailBytes 1 0)).post .noStore (defaultSeq s) 0))) ∧
    (s.ppc.presence = .present →
      (byteAt img 0 ≠ 0xA6#8 →
        exec (.profileLoad image) s = .next (loaded builtInSettings .default none .journalRead
          (s.rpu.post .profileDefault (defaultSeq s) (detailBytes 2 0)))) ∧
      (∀ why item, fails why item →
        exec (.profileLoad image) s = .next (loaded builtInSettings .invalid (some why) .journalRead
          (s.rpu.post .profileInvalid (defaultSeq s) (detailBytes (byteOf (invalidCode why)) (byteOf item))))) ∧
      (framed → failingItem items = none → commandsOk (settingsOf items) = true →
        regionsOk ((settingsOf items).regions.toList.filterMap id) (settingsOf items).flashExp = true →
        exec (.profileLoad image) s = .next (loaded (settingsOf items) .loaded none .journalRead s.rpu))))

/-- R137, R138: of several entries for an item the last is taken, leftover bytes form no entry, and the taken settings
lie in their ranges: an item given is clamped, one not given has its default. R159: what the values of a region item, a
command item, the policy item and the line items select. R139: the item that fails ENTRY is the first of the region
positions, then of the command positions, whose value is none of these. -/
def Obligations.TakenSettingsAreClamped : Prop :=
  (∀ (bs rest : List Byte) (k b0 b1 b2 b3 : Byte), bs = k :: b0 :: b1 :: b2 :: b3 :: rest →
    itemsOf bs = (k, field32 [b0, b1, b2, b3] 0) :: itemsOf rest) ∧
  (∀ bs : List Byte, (itemsOf bs).length = bs.length / 5) ∧
  (∀ (items : List (Byte × Word32)) (k : Byte) (v : Word32) (item : Nat),
    itemValue (items ++ [(k, v)]) item = if k.toNat = item then some v else itemValue items item) ∧
  (∀ items : List (Byte × Word32),
    let given (item : Nat) (v : Word32) : Prop := itemValue items item = some v
    let st := settingsOf items
    (20 ≤ st.flashExp ∧ st.flashExp ≤ 24 ∧ st.busyBit ≤ 7 ∧ st.welBit ≤ 7 ∧ st.progExp ≤ 12 ∧ st.eraseExp ≤ 12 ∧
      st.confirmExp ≤ 7 ∧ st.threshold ≤ 255) ∧
    (∀ v, given 0x01 v → st.flashExp = max 20 (min 24 v.toNat)) ∧ (itemValue items 0x01 = none → st.flashExp = 23) ∧
    (∀ v, given 0x40 v → st.busyBit = min 7 (v.toNat % 256) ∧ st.welBit = min 7 (v.toNat / 256 % 256)) ∧
    (itemValue items 0x40 = none → st.busyBit = 0 ∧ st.welBit = 1) ∧
    (∀ v, given 0x41 v → st.progExp = min 12 v.toNat) ∧ (itemValue items 0x41 = none → st.progExp = 3) ∧
    (∀ v, given 0x42 v → st.eraseExp = min 12 v.toNat) ∧ (itemValue items 0x42 = none → st.eraseExp = 10) ∧
    (∀ v, given 0x43 v → st.confirmExp = min 7 v.toNat) ∧ (itemValue items 0x43 = none → st.confirmExp = 5) ∧
    (∀ v, given 0x44 v → st.threshold = min 255 v.toNat) ∧ (itemValue items 0x44 = none → st.threshold = 0) ∧
    (∀ v, given 0x45 v → 8 < v.toNat → st.st0 = .const0) ∧ (itemValue items 0x45 = none → st.st0 = .setReady) ∧
    (∀ v, given 0x46 v → 8 < v.toNat → st.st1 = .const0) ∧ (itemValue items 0x46 = none → st.st1 = .trial) ∧
    (∀ (v : Word32) (source : LineSource), (v.toNat, source) ∈ [(0, LineSource.const0), (1, .const1), (2, .setReady),
        (3, .trial), (4, .bootSlot), (5, .scanning), (6, .degraded), (7, .alert), (8, .flashBusy)] →
      (given 0x45 v → st.st0 = source) ∧ (given 0x46 v → st.st1 = source)) ∧
    (st.policy = .pass ↔ ∃ v, given 0x02 v ∧ v.toNat = 1) ∧
    (∀ i : Fin 12, (itemValue items (0x10 + i.val) = none → st.regions[i] = none) ∧
      ∀ v r, given (0x10 + i.val) v → regionOfItem v = some r → st.regions[i] = r) ∧
    (∀ i : Fin 24, (itemValue items (0x20 + i.val) = none → st.commands[i] = none) ∧
      ∀ v e, given (0x20 + i.val) v → commandOfItem v = some e → st.commands[i] = e) ∧
    let badRegion (i : Nat) : Prop := ∃ v, given (0x10 + i) v ∧ regionOfItem v = none
    let badCommand (i : Nat) : Prop := ∃ v, given (0x20 + i) v ∧ commandOfItem v = none
    (failingItem items = none ↔ (∀ i < 12, ¬ badRegion i) ∧ ∀ i < 24, ¬ badCommand i) ∧
    (∀ i < 12, badRegion i → (∀ j < i, ¬ badRegion j) → failingItem items = some (0x10 + i)) ∧
    (∀ i < 24, badCommand i → (∀ j < 12, ¬ badRegion j) → (∀ j < i, ¬ badCommand j) →
      failingItem items = some (0x20 + i))) ∧
  (∀ (v : Word32) (kind slot : Nat) (entry : RegionKind → Region), kind = v.toNat / 2 ^ 24 % 16 →
    slot = v.toNat / 2 ^ 28 →
    (∀ k, entry k = { kind := k, base := BitVec.ofNat 12 v.toNat, limit := BitVec.ofNat 12 (v.toNat / 2 ^ 12) }) →
    (kind = 0 → regionOfItem v = some none) ∧
    (kind = 1 → (slot = 0 → regionOfItem v = some (some (entry (.slot .slot0)))) ∧
      (slot = 1 → regionOfItem v = some (some (entry (.slot .slot1)))) ∧ (1 < slot → regionOfItem v = none)) ∧
    (∀ k, (kind, k) ∈ [(2, RegionKind.bootView), (3, .manifest), (4, .report), (5, .openArea), (6, .locked),
      (7, .hidden)] → regionOfItem v = some (some (entry k))) ∧
    (7 < kind → regionOfItem v = none)) ∧
  (∀ (v : Word32) (cls dummies : Nat), cls = v.toNat / 2 ^ 8 % 256 → dummies = v.toNat / 2 ^ 24 →
    (cls = 0 → commandOfItem v = some none) ∧
    (cls ≠ 0 → (10 < cls ∨ 2 < dummies) → commandOfItem v = none) ∧
    (∀ c, (cls, c) ∈ [(1, CmdClass.read), (2, .statusRead), (3, .writeEnable), (4, .writeDisable), (5, .program),
        (6, .erase4k), (7, .erase64k), (8, .eraseAll), (9, .pass), (10, .block)] → dummies ≤ 2 →
      commandOfItem v = some (some { code := BitVec.ofNat 8 v.toNat, cls := c, addrFlag := v.getLsbD 16,
                                     dummies := dummies })))

/-- R116, R124: the valid entry of highest generation, of equals the one at the lowest position, becomes the journal
image and the write position follows it round the ring; with none the default journal applies. A trial in the image,
unless the profile is INVALID, is then accounted: an attempt entry goes in flight, or with no attempts left the revert
begins. R117, R119, R131: at generation FFFFFFFEh these writes fail at once, the demand is dropped, and the start-up goes
on to the rebuild, marked for DEGRADED. -/
def Obligations.JournalReadFindsTheWinner : Prop :=
  ∀ (s : State) (image : List Byte), s.sup.step = .journalRead →
    let at_ (p : Nat) : Option JournalEntry := entryOf (((fit 1024 image).drop (64 * p)).take 64)
    ((∀ p < 16, at_ p = none) → exec (.journalRead image) s = .next { s with
      bsv := { s.bsv with image := JournalEntry.default, position := none, next := 0 }
      sup := { s.sup with step := .rebuild } }) ∧
    (∀ (p : Nat) (e : JournalEntry), p < 16 → at_ p = some e →
      (∀ q < 16, ∀ d, at_ q = some d → q = p ∨ d.generation < e.generation ∨ (d.generation = e.generation ∧ p < q)) →
      let found : Bsv := { s.bsv with image := e, position := some p, next := if p = 15 then 0 else p + 1 }
      ((e.boot = .stable ∨ s.ppc.profile = .invalid) → exec (.journalRead image) s = .next { s with
        bsv := found, sup := { s.sup with step := .rebuild } }) ∧
      (e.boot = .trial → s.ppc.profile ≠ .invalid → e.generation ≠ 0xFFFFFFFE#32 →
        (e.attempts ≠ 0 → exec (.journalRead image) s = .next { s with
          bsv := { found with
            inFlight := some { kind := .attempt, since := s.now
                               entry := { freshEntry e with attempts := e.attempts - 1 } }
            retryWait := none }
          sup := { s.sup with step := .accounting } }) ∧
        (e.attempts = 0 → exec (.journalRead image) s = .next { s with
          bsv := { found with
            inFlight := some { kind := .revert, since := s.now
                               entry := { freshEntry e with
                                 boot := .stable, lastReverted := e.trialSeq, attempts := 0 } }
            retryWait := none, demand := some (s.bsv.demand.getD .attempts), confirmTimer := none
            mrst := some (s.bsv.mrst.getD s.now), releaseDue := none }
          sup := { s.sup with step := .accounting } })) ∧
      (e.boot = .trial → s.ppc.profile ≠ .invalid → e.generation = 0xFFFFFFFE#32 → s.sup.part = .starting →
        exec (.journalRead image) s = .next { s with
          rpu := (if e.attempts = 0 then s.rpu
            else s.rpu.post .journalFailed (defaultSeq s) (detailBytes 2 0)).post .journalFailed (defaultSeq s)
              (detailBytes 4 0)
          bsv := revertSpent { s with bsv := found } none, sup := supSpent s }))

/-- R115, R160: the 64 bytes written for an entry read back as that entry, and 64 bytes that read as an entry are the
bytes written for it. (A read keeps the version that an empty pair's bytes hold: log 25.) -/
def Obligations.JournalEntriesReadBack : Prop :=
  (∀ e : JournalEntry, e.generation ≠ 0xFFFFFFFF#32 → e.attempts ≤ 6 → (e.boot = .trial → e.trial ≠ e.committed) →
    (entryBytes e).length = 64 ∧ entryOf (entryBytes e) = some e) ∧
  (∀ (bs : List Byte) (e : JournalEntry), bs.length = 64 → entryOf bs = some e →
    entryBytes e = bs ∧ e.generation ≠ 0xFFFFFFFF#32 ∧ e.attempts ≤ 6 ∧ (e.boot = .trial → e.trial ≠ e.committed))

/-- R51, R52, R12: the rebuild's judgement of the record at its cursor. A kind byte of FFh ends the log there; a torn
record posts RECORD_TORN and the cursor passes its cells; of whole records COMMIT, CONFIRM, CLEAR and RESCAN are skipped,
an unknown kind is refused, and the other kinds are handed; at the area end the log ends. R51: each read stands on the
flash port with the first READ entry's code and dummies at the cursor's address. R54: past the log's end the kind bytes
of a sector short of the last set its flag, and the next sector is read (ascending, the model's choice, log 20). Until the
log ends the append point stays as it stands (the model's choice, log 34). R71: an
ABANDON at rebuild is refused or makes an unrecognized set ABANDONED, and any other set passes it over (NO_SET with no
set: log 16). -/
def Obligations.RebuildJudgesRecords : Prop :=
  (∀ (s : State) (e : CmdEntry), s.sup.step = .rebuild → s.trc.flash = none →
    (s.trc.busy = none ∨ (s.trc.stuck = true ∧ s.lgp.pollOwed = false)) → s.lgp.cursor < 16384 →
    firstEntry s.settings .read = some e →
    flashPort s = some { owner := .rebuild, code := e.code, addr := some (areaAddr s.settings s.lgp.cursor),
                         dummies := e.dummies }) ∧
  (∀ (s : State) (kinds : List Byte) (k : Fin 4), s.sup.step = .rebuild → s.trc.flash = none →
    (s.trc.busy = none ∨ (s.trc.stuck = true ∧ s.lgp.pollOwed = false)) → s.lgp.logEnded = true →
    s.lgp.cursor < 12288 → k.val = s.lgp.cursor / 4096 → kinds.length = 128 - s.lgp.cursor / 32 % 128 →
    exec (.rebuildReadDone kinds) s = .next { s with lgp := { s.lgp with
      clean := s.lgp.clean.set k (kinds.all fun b => b == 0xFF#8)
      cursor := (k.val + 1) * 4096, pollOwed := s.trc.busy.isSome && s.trc.stuck } }) ∧
  (∀ (s : State) (r : Record),
    let refusal (reason : RefuseReason) : State := { s with
      rpu := s.rpu.post .recordRefused r.seq (detailBytes 7 (byteOf (refuseCode reason))) }
    (r.body ≠ [] → rebuildAbandon r s = refusal .malformed) ∧
    (r.body = [] → s.stm.set = none → rebuildAbandon r s = refusal .noSet) ∧
    (∀ cs, r.body = [] → s.stm.set = some cs →
      (cs.rebuildClass ∈ [some .installed, some .trial, some .reverted] → rebuildAbandon r s = s) ∧
      (cs.rebuildClass = some .unrecognized →
        (r.seq ≠ cs.seq → rebuildAbandon r s = refusal .wrongSequence) ∧
        (r.seq = cs.seq → preparing s.stm.setState = false → rebuildAbandon r s = refusal .wrongState) ∧
        (r.seq = cs.seq → preparing s.stm.setState = true → rebuildAbandon r s = { s with
          stm := { s.stm with setState := .abandoned }
          ckt := { chunks := s.ckt.chunks.map fun c => if c.state = .scanning then { c with state := .dirty } else c
                   queue := [] }
          scan := none
          trc := if s.trc.flash.map FlashTxn.owner = some .scan then { s.trc with flash := none } else s.trc })))) ∧
  ∀ (s : State) (bytes hdr body : List Byte), s.sup.step = .rebuild → s.trc.flash = none →
    (s.trc.busy = none ∨ (s.trc.stuck = true ∧ s.lgp.pollOwed = false)) → s.lgp.logEnded = false →
    bytes.take 8 = hdr → hdr.length = 8 → body = (bytes.drop 8).take (field16 hdr 4).toNat →
    let owed : Bool := s.trc.busy.isSome && s.trc.stuck
    let past (n : Nat) : State := { s with lgp :=
      if 16384 ≤ s.lgp.cursor + 32 * n then
        { s.lgp with cursor := 16384, logEnded := true, appendPoint := 16384, pollOwed := owed }
      else { s.lgp with cursor := s.lgp.cursor + 32 * n, pollOwed := owed } }
    let torn (n : Nat) : State := { past n with
      rpu := s.rpu.post .recordTorn (defaultSeq s) (detailAddr (areaAddr s.settings s.lgp.cursor)) }
    let r : Record := { cells := (byteAt hdr 1).toNat, seq := field16 hdr 2, check := field16 hdr 6, body := body,
                        start := areaAddr s.settings s.lgp.cursor }
    (byteAt hdr 0 = 0xFF#8 → exec (.rebuildReadDone bytes) s = .next { s with
      lgp := { s.lgp with logEnded := true, appendPoint := s.lgp.cursor, pollOwed := owed } }) ∧
    (byteAt hdr 0 ≠ 0xFF#8 →
      (∀ n, judgeHeader s.lgp.cursor hdr = .torn n → exec (.rebuildReadDone bytes) s = .next (torn n)) ∧
      (∀ n, judgeHeader s.lgp.cursor hdr = .valid n → body.length = (field16 hdr 4).toNat →
        (recordCheck (byteAt hdr 0) (hdr.take 6 ++ body) ≠ field16 hdr 6 →
          exec (.rebuildReadDone bytes) s = .next (torn n)) ∧
        (recordCheck (byteAt hdr 0) (hdr.take 6 ++ body) = field16 hdr 6 →
          (byteAt hdr 0 ∈ [5#8, 6#8, 8#8, 9#8] → exec (.rebuildReadDone bytes) s = .next (past n)) ∧
          (((byteAt hdr 0).toNat = 0 ∨ 9 < (byteAt hdr 0).toNat) → exec (.rebuildReadDone bytes) s = .next { past n with
            rpu := s.rpu.post .recordRefused r.seq (detailBytes (byteAt hdr 0) 10) }) ∧
          (byteAt hdr 0 = 1#8 → exec (.rebuildReadDone bytes) s = .next (rebuildOpen r (past n))) ∧
          (byteAt hdr 0 = 2#8 → exec (.rebuildReadDone bytes) s = .next (takeComponent r (past n))) ∧
          (byteAt hdr 0 = 3#8 → exec (.rebuildReadDone bytes) s = .next (takeCodes r (past n))) ∧
          (byteAt hdr 0 = 4#8 → exec (.rebuildReadDone bytes) s = .next (takeClose r (past n))) ∧
          (byteAt hdr 0 = 7#8 → exec (.rebuildReadDone bytes) s = .next (rebuildAbandon r (past n))))))

/-- R76, R58: an OPEN found at rebuild. A malformed one is refused. A sequence at or below the log high sequence is
refused; one the journal knows, as installed, as the trial or as the last reverted, is accepted with that class whatever
slot it names; any other is accepted as unrecognized only under R57's checks of the boot state, the slot and the
sequences. -/
def Obligations.RebuildOpensAreClassed : Prop :=
  (∀ (s : State) (r : Record),
    let malformed : State := { s with
      rpu := s.rpu.post .recordRefused r.seq (detailBytes 1 (byteOf (refuseCode .malformed))) }
    (r.body.length ≠ 4 → rebuildOpen r s = malformed) ∧
    (∀ slot count exponent attempts : Byte, r.body = [slot, count, exponent, attempts] →
      ¬ (slot.toNat ≤ 1 ∧ 1 ≤ count.toNat ∧ count.toNat ≤ 8 ∧ 12 ≤ exponent.toNat ∧ exponent.toNat ≤ 14 ∧
        1 ≤ attempts.toNat ∧ attempts.toNat ≤ 7) → rebuildOpen r s = malformed)) ∧
  ∀ (s : State) (r : Record) (slot count exponent attempts : Byte) (target : Slot),
    r.body = [slot, count, exponent, attempts] → slot.toNat = slotCode target →
    1 ≤ count.toNat → count.toNat ≤ 8 → 12 ≤ exponent.toNat → exponent.toNat ≤ 14 → 1 ≤ attempts.toNat →
    attempts.toNat ≤ 7 →
    let e := s.bsv.image
    let accepted (cls : RebuildClass) : State := { s with
      stm := {
        setState := .receiving
        set := some { seq := r.seq, target := target, chunkExp := exponent.toNat, attempts := attempts.toNat,
                      compCount := count.toNat, rebuildClass := some cls }
        comps := Vector.replicate 8 none
        accepted := 1
        digest := some (laneStep { a := 1, b := r.seq.toNat % 65521 } r.check.toNat)
        reason := none
        mismatchTotal := 0
        logHigh := r.seq }
      ckt := { chunks := [], queue := [] }
      scan := none
      trc := if s.trc.flash.map FlashTxn.owner = some .scan then { s.trc with flash := none } else s.trc }
    let refusal (reason : RefuseReason) : State := { s with
      rpu := s.rpu.post .recordRefused r.seq (detailBytes 1 (byteOf (refuseCode reason))) }
    let unknown : Prop := e.committedSeq < r.seq ∧ ¬ (e.boot = .trial ∧ r.seq = e.trialSeq) ∧ r.seq ≠ e.lastReverted
    (r.seq ≤ s.stm.logHigh → rebuildOpen r s = refusal .staleSequence) ∧
    (s.stm.logHigh < r.seq →
      (r.seq ≤ e.committedSeq → rebuildOpen r s = accepted .installed) ∧
      (e.committedSeq < r.seq → e.boot = .trial → r.seq = e.trialSeq → rebuildOpen r s = accepted .trial) ∧
      (e.committedSeq < r.seq → ¬ (e.boot = .trial ∧ r.seq = e.trialSeq) → r.seq = e.lastReverted →
        rebuildOpen r s = accepted .reverted) ∧
      (unknown → (e.boot = .trial ∨ s.stm.setState = .trial) → rebuildOpen r s = refusal .wrongState) ∧
      (unknown → e.boot = .stable → s.stm.setState ≠ .trial →
        (target = e.committed → rebuildOpen r s = refusal .wrongSlot) ∧
        (target ≠ e.committed → (r.seq ≤ e.trialSeq ∨ r.seq ≤ e.lastReverted) →
          rebuildOpen r s = refusal .staleSequence) ∧
        (target ≠ e.committed → e.trialSeq < r.seq → e.lastReverted < r.seq →
          rebuildOpen r s = accepted .unrecognized)))

/-- R54, R77, R143, R93: with the last sector's kind bytes read too, a sector wholly below the append point is clean, the
last is clean exactly when its kind bytes are FFh, and another as its own read left it (RebuildJudgesRecords); the set
settles by its rebuild class, which is dropped; the release step enters RUN, or DEGRADED with an invalid profile or the
mark of R131, releases MRST, starts the confirm timer in RUN with a trial, and in RUN queues the coded chunks of a live
set. (The clock at MRST's 10 ms: the model's choice, log 2. The DIRTY chunks for the coded ones: log 29. A poll still
owed comes before the completion: log 32.) -/
def Obligations.RebuildSettlesAndReleases : Prop :=
  (∀ (s : State) (kinds : List Byte), s.sup.step = .rebuild → s.trc.flash = none →
    (s.trc.busy = none ∨ (s.trc.stuck = true ∧ s.lgp.pollOwed = false)) → s.lgp.logEnded = true →
    12288 ≤ s.lgp.cursor → s.lgp.cursor ≤ 16384 → kinds.length = 512 - s.lgp.cursor / 32 →
    ∃ clean : Vector Bool 4,
      (∀ k : Fin 4, clean[k] = true ↔ (k.val + 1) * 4096 ≤ s.lgp.appendPoint ∨
        (k.val = 3 ∧ ∀ b ∈ kinds, b = 0xFF#8) ∨ (k.val < 3 ∧ s.lgp.clean[k] = true)) ∧
      let done (stm : Stm) : State := { s with
        lgp := { s.lgp with clean := clean, pollOwed := false }, sup := { s.sup with step := .release }, stm := stm }
      (s.stm.set = none → exec (.rebuildComplete kinds) s = .next (done { s.stm with setState := .idle })) ∧
      (∀ cs, s.stm.set = some cs →
        let settled (x : SetState) : Stm := { s.stm with
          setState := x, set := some { cs with rebuildClass := none }
          reason := if s.stm.setState = .rejected ∨ s.stm.setState = .abandoned then none else s.stm.reason }
        ((cs.rebuildClass = none ∨ cs.rebuildClass = some .unrecognized) →
          exec (.rebuildComplete kinds) s = .next
            (done { s.stm with set := some { cs with rebuildClass := none } })) ∧
        (cs.rebuildClass = some .installed → exec (.rebuildComplete kinds) s = .next (done (settled .installed))) ∧
        (cs.rebuildClass = some .trial → exec (.rebuildComplete kinds) s = .next (done (settled .trial))) ∧
        (cs.rebuildClass = some .reverted → exec (.rebuildComplete kinds) s = .next { done (settled .reverted) with
          ckt := { chunks := s.ckt.chunks.map fun c => if c.state = .scanning then { c with state := .dirty } else c
                   queue := [] }
          scan := none }))) ∧
  (∀ (s t : State) (part : PartState), s.sup.step = .release → s.sup.rstin = false →
    t = elapse (s.bsv.mrst.getD s.now + 10 - s.now) s →
    (part = if s.ppc.profile = .invalid ∨ s.sup.markDegraded = true then PartState.degraded else PartState.run) →
    exec .releaseStep s = .next { t with
      sup := { s.sup with part := part, step := .finished }
      bsv := { t.bsv with
        mrst := none, releaseDue := none
        confirmTimer :=
          if part = .run ∧ s.bsv.image.boot = .trial then some (2 ^ s.settings.confirmExp * 250) else none }
      ckt := { s.ckt with queue :=
        if part = .run ∧ liveState s.stm.setState = true then
          (s.ckt.chunks.filter fun c => c.state == .dirty).map Chunk.ref
        else s.ckt.queue } })

/-! ### The laws -/

/-- The ninth law (R147, R148) is kept by every step. -/
def Obligations.EventListLawKept : Prop :=
  ∀ s t : State, EventListLaw s → step s = .next t → EventListLaw t

/-- The seventh law (R94): the lanes of the running digest and of a scan stay below 65521 at every step. -/
def Obligations.LanesLawKept : Prop :=
  ∀ s t : State, LanesLaw s → step s = .next t → LanesLaw t

/-- The first and the second law (R85, R91) are kept by every step: while the queue is served it holds exactly the DIRTY
chunks, each once, and else it is empty; exactly the chunk of the scan context is SCANNING. -/
def Obligations.QueueScanLawKept : Prop :=
  ∀ s t : State, QueueScanLaw s → step s = .next t → QueueScanLaw t

/-- The fourth law (R67 to R69) is kept by every step: while the set is READY or COMMITTING every chunk is GOOD; and a
step that brings the set into COMMITTING takes it from READY and leaves every chunk GOOD. -/
def Obligations.ReadyLawKept : Prop :=
  ∀ s t : State, ReadyLaw s → step s = .next t → ReadyLaw t ∧
    (t.stm.setState = .committing → s.stm.setState = .committing ∨
      (s.stm.setState = .ready ∧ ∀ c ∈ t.ckt.chunks, c.state = .good))

/-- R154 to R156, in every state: ALERT is asserted exactly while the list holds an ATTENTION event (R150), STARTING apart;
ST0 and ST1 are low exactly in STARTING or while the source selected is low, and each source is high in its condition. The
laws hold at reset; and at reset the part is in STARTING with MRST asserted, the status lines and ALERT inactive,
no set, and the default journal (R114, R134, R141, R145). That reset is power-on with RSTIN released and the
sequence begun, its restart cause START, is the model's choice (log 3), as is the empty queue (log 22). -/
def Obligations.LawsHoldAtReset : Prop :=
  (∀ s : State,
    (alertAsserted s = true ↔ s.sup.part ≠ .starting ∧ ∃ e ∈ s.rpu.events, e.kind ∈ [EventKind.suppressedWrite,
      .blockedCommand, .logOutOfOrder, .logNotErased, .logFull, .logCut, .setRejected, .healthBad, .journalFailed,
      .trialTimeout, .trialReverted, .flashStuck, .profileInvalid, .noStore]) ∧
    (st0High s = false ↔ s.sup.part = .starting ∨ sourceHigh s s.settings.st0 = false) ∧
    (st1High s = false ↔ s.sup.part = .starting ∨ sourceHigh s s.settings.st1 = false) ∧
    sourceHigh s .const0 = false ∧ sourceHigh s .const1 = true ∧
    (sourceHigh s .setReady = true ↔ s.stm.setState = .ready) ∧
    (sourceHigh s .trial = true ↔ s.bsv.image.boot = .trial) ∧
    (sourceHigh s .bootSlot = true ↔
      (s.sup.part = .run ∧ s.bsv.image.boot = .trial ∧ s.bsv.image.trial = .slot1) ∨
      (¬ (s.sup.part = .run ∧ s.bsv.image.boot = .trial) ∧ s.bsv.image.committed = .slot1)) ∧
    (sourceHigh s .scanning = true ↔ s.scan ≠ none) ∧
    (sourceHigh s .degraded = true ↔ s.sup.part = .degraded) ∧
    (sourceHigh s .alert = true ↔ alertAsserted s = true) ∧
    (sourceHigh s .flashBusy = true ↔ s.trc.busy ≠ none)) ∧
  EventListLaw State.reset ∧ LanesLaw State.reset ∧ QueueScanLaw State.reset ∧ ReadyLaw State.reset ∧
    State.reset.sup.part = .starting ∧ State.reset.bsv.mrst ≠ none ∧ State.reset.bsv.restart = .start ∧
    alertAsserted State.reset = false ∧ st0High State.reset = false ∧ st1High State.reset = false ∧
    State.reset.stm.setState = .idle ∧ State.reset.stm.set = none ∧ State.reset.bsv.image = JournalEntry.default ∧
    State.reset.pending = []
end

