-- ==== Sys2Proof/Laws/State.lean ====
section
/-!
SUPPORT. One lemma per block per replacement, true by rfl: no later proof unfolds a record update.
-/

namespace Sys2Proof.Machine

@[simp] theorem State.setPending_pending (s : State) (x : List Instr) : (s.setPending x).pending = x := rfl
@[simp] theorem State.setPending_now (s : State) (x : List Instr) : (s.setPending x).now = s.now := rfl
@[simp] theorem State.setPending_freeDraws (s : State) (x : List Instr) : (s.setPending x).freeDraws = s.freeDraws := rfl
@[simp] theorem State.setPending_trc (s : State) (x : List Instr) : (s.setPending x).trc = s.trc := rfl
@[simp] theorem State.setPending_settings (s : State) (x : List Instr) : (s.setPending x).settings = s.settings := rfl
@[simp] theorem State.setPending_lgp (s : State) (x : List Instr) : (s.setPending x).lgp = s.lgp := rfl
@[simp] theorem State.setPending_stm (s : State) (x : List Instr) : (s.setPending x).stm = s.stm := rfl
@[simp] theorem State.setPending_ckt (s : State) (x : List Instr) : (s.setPending x).ckt = s.ckt := rfl
@[simp] theorem State.setPending_scan (s : State) (x : List Instr) : (s.setPending x).scan = s.scan := rfl
@[simp] theorem State.setPending_bsv (s : State) (x : List Instr) : (s.setPending x).bsv = s.bsv := rfl
@[simp] theorem State.setPending_ppc (s : State) (x : List Instr) : (s.setPending x).ppc = s.ppc := rfl
@[simp] theorem State.setPending_sup (s : State) (x : List Instr) : (s.setPending x).sup = s.sup := rfl
@[simp] theorem State.setPending_rpu (s : State) (x : List Instr) : (s.setPending x).rpu = s.rpu := rfl
@[simp] theorem State.setPending_setPending (s : State) (x y : List Instr) : (s.setPending x).setPending y = s.setPending y := rfl

@[simp] theorem State.setNow_pending (s : State) (x : Nat) : (s.setNow x).pending = s.pending := rfl
@[simp] theorem State.setNow_now (s : State) (x : Nat) : (s.setNow x).now = x := rfl
@[simp] theorem State.setNow_freeDraws (s : State) (x : Nat) : (s.setNow x).freeDraws = s.freeDraws := rfl
@[simp] theorem State.setNow_trc (s : State) (x : Nat) : (s.setNow x).trc = s.trc := rfl
@[simp] theorem State.setNow_settings (s : State) (x : Nat) : (s.setNow x).settings = s.settings := rfl
@[simp] theorem State.setNow_lgp (s : State) (x : Nat) : (s.setNow x).lgp = s.lgp := rfl
@[simp] theorem State.setNow_stm (s : State) (x : Nat) : (s.setNow x).stm = s.stm := rfl
@[simp] theorem State.setNow_ckt (s : State) (x : Nat) : (s.setNow x).ckt = s.ckt := rfl
@[simp] theorem State.setNow_scan (s : State) (x : Nat) : (s.setNow x).scan = s.scan := rfl
@[simp] theorem State.setNow_bsv (s : State) (x : Nat) : (s.setNow x).bsv = s.bsv := rfl
@[simp] theorem State.setNow_ppc (s : State) (x : Nat) : (s.setNow x).ppc = s.ppc := rfl
@[simp] theorem State.setNow_sup (s : State) (x : Nat) : (s.setNow x).sup = s.sup := rfl
@[simp] theorem State.setNow_rpu (s : State) (x : Nat) : (s.setNow x).rpu = s.rpu := rfl
@[simp] theorem State.setNow_setNow (s : State) (x y : Nat) : (s.setNow x).setNow y = s.setNow y := rfl

@[simp] theorem State.setFreeDraws_pending (s : State) (x : Nat) : (s.setFreeDraws x).pending = s.pending := rfl
@[simp] theorem State.setFreeDraws_now (s : State) (x : Nat) : (s.setFreeDraws x).now = s.now := rfl
@[simp] theorem State.setFreeDraws_freeDraws (s : State) (x : Nat) : (s.setFreeDraws x).freeDraws = x := rfl
@[simp] theorem State.setFreeDraws_trc (s : State) (x : Nat) : (s.setFreeDraws x).trc = s.trc := rfl
@[simp] theorem State.setFreeDraws_settings (s : State) (x : Nat) : (s.setFreeDraws x).settings = s.settings := rfl
@[simp] theorem State.setFreeDraws_lgp (s : State) (x : Nat) : (s.setFreeDraws x).lgp = s.lgp := rfl
@[simp] theorem State.setFreeDraws_stm (s : State) (x : Nat) : (s.setFreeDraws x).stm = s.stm := rfl
@[simp] theorem State.setFreeDraws_ckt (s : State) (x : Nat) : (s.setFreeDraws x).ckt = s.ckt := rfl
@[simp] theorem State.setFreeDraws_scan (s : State) (x : Nat) : (s.setFreeDraws x).scan = s.scan := rfl
@[simp] theorem State.setFreeDraws_bsv (s : State) (x : Nat) : (s.setFreeDraws x).bsv = s.bsv := rfl
@[simp] theorem State.setFreeDraws_ppc (s : State) (x : Nat) : (s.setFreeDraws x).ppc = s.ppc := rfl
@[simp] theorem State.setFreeDraws_sup (s : State) (x : Nat) : (s.setFreeDraws x).sup = s.sup := rfl
@[simp] theorem State.setFreeDraws_rpu (s : State) (x : Nat) : (s.setFreeDraws x).rpu = s.rpu := rfl
@[simp] theorem State.setFreeDraws_setFreeDraws (s : State) (x y : Nat) : (s.setFreeDraws x).setFreeDraws y = s.setFreeDraws y := rfl

@[simp] theorem State.setTrc_pending (s : State) (x : Trc) : (s.setTrc x).pending = s.pending := rfl
@[simp] theorem State.setTrc_now (s : State) (x : Trc) : (s.setTrc x).now = s.now := rfl
@[simp] theorem State.setTrc_freeDraws (s : State) (x : Trc) : (s.setTrc x).freeDraws = s.freeDraws := rfl
@[simp] theorem State.setTrc_trc (s : State) (x : Trc) : (s.setTrc x).trc = x := rfl
@[simp] theorem State.setTrc_settings (s : State) (x : Trc) : (s.setTrc x).settings = s.settings := rfl
@[simp] theorem State.setTrc_lgp (s : State) (x : Trc) : (s.setTrc x).lgp = s.lgp := rfl
@[simp] theorem State.setTrc_stm (s : State) (x : Trc) : (s.setTrc x).stm = s.stm := rfl
@[simp] theorem State.setTrc_ckt (s : State) (x : Trc) : (s.setTrc x).ckt = s.ckt := rfl
@[simp] theorem State.setTrc_scan (s : State) (x : Trc) : (s.setTrc x).scan = s.scan := rfl
@[simp] theorem State.setTrc_bsv (s : State) (x : Trc) : (s.setTrc x).bsv = s.bsv := rfl
@[simp] theorem State.setTrc_ppc (s : State) (x : Trc) : (s.setTrc x).ppc = s.ppc := rfl
@[simp] theorem State.setTrc_sup (s : State) (x : Trc) : (s.setTrc x).sup = s.sup := rfl
@[simp] theorem State.setTrc_rpu (s : State) (x : Trc) : (s.setTrc x).rpu = s.rpu := rfl
@[simp] theorem State.setTrc_setTrc (s : State) (x y : Trc) : (s.setTrc x).setTrc y = s.setTrc y := rfl

@[simp] theorem State.setSettings_pending (s : State) (x : Settings) : (s.setSettings x).pending = s.pending := rfl
@[simp] theorem State.setSettings_now (s : State) (x : Settings) : (s.setSettings x).now = s.now := rfl
@[simp] theorem State.setSettings_freeDraws (s : State) (x : Settings) : (s.setSettings x).freeDraws = s.freeDraws := rfl
@[simp] theorem State.setSettings_trc (s : State) (x : Settings) : (s.setSettings x).trc = s.trc := rfl
@[simp] theorem State.setSettings_settings (s : State) (x : Settings) : (s.setSettings x).settings = x := rfl
@[simp] theorem State.setSettings_lgp (s : State) (x : Settings) : (s.setSettings x).lgp = s.lgp := rfl
@[simp] theorem State.setSettings_stm (s : State) (x : Settings) : (s.setSettings x).stm = s.stm := rfl
@[simp] theorem State.setSettings_ckt (s : State) (x : Settings) : (s.setSettings x).ckt = s.ckt := rfl
@[simp] theorem State.setSettings_scan (s : State) (x : Settings) : (s.setSettings x).scan = s.scan := rfl
@[simp] theorem State.setSettings_bsv (s : State) (x : Settings) : (s.setSettings x).bsv = s.bsv := rfl
@[simp] theorem State.setSettings_ppc (s : State) (x : Settings) : (s.setSettings x).ppc = s.ppc := rfl
@[simp] theorem State.setSettings_sup (s : State) (x : Settings) : (s.setSettings x).sup = s.sup := rfl
@[simp] theorem State.setSettings_rpu (s : State) (x : Settings) : (s.setSettings x).rpu = s.rpu := rfl
@[simp] theorem State.setSettings_setSettings (s : State) (x y : Settings) : (s.setSettings x).setSettings y = s.setSettings y := rfl

@[simp] theorem State.setLgp_pending (s : State) (x : Lgp) : (s.setLgp x).pending = s.pending := rfl
@[simp] theorem State.setLgp_now (s : State) (x : Lgp) : (s.setLgp x).now = s.now := rfl
@[simp] theorem State.setLgp_freeDraws (s : State) (x : Lgp) : (s.setLgp x).freeDraws = s.freeDraws := rfl
@[simp] theorem State.setLgp_trc (s : State) (x : Lgp) : (s.setLgp x).trc = s.trc := rfl
@[simp] theorem State.setLgp_settings (s : State) (x : Lgp) : (s.setLgp x).settings = s.settings := rfl
@[simp] theorem State.setLgp_lgp (s : State) (x : Lgp) : (s.setLgp x).lgp = x := rfl
@[simp] theorem State.setLgp_stm (s : State) (x : Lgp) : (s.setLgp x).stm = s.stm := rfl
@[simp] theorem State.setLgp_ckt (s : State) (x : Lgp) : (s.setLgp x).ckt = s.ckt := rfl
@[simp] theorem State.setLgp_scan (s : State) (x : Lgp) : (s.setLgp x).scan = s.scan := rfl
@[simp] theorem State.setLgp_bsv (s : State) (x : Lgp) : (s.setLgp x).bsv = s.bsv := rfl
@[simp] theorem State.setLgp_ppc (s : State) (x : Lgp) : (s.setLgp x).ppc = s.ppc := rfl
@[simp] theorem State.setLgp_sup (s : State) (x : Lgp) : (s.setLgp x).sup = s.sup := rfl
@[simp] theorem State.setLgp_rpu (s : State) (x : Lgp) : (s.setLgp x).rpu = s.rpu := rfl
@[simp] theorem State.setLgp_setLgp (s : State) (x y : Lgp) : (s.setLgp x).setLgp y = s.setLgp y := rfl

@[simp] theorem State.setStm_pending (s : State) (x : Stm) : (s.setStm x).pending = s.pending := rfl
@[simp] theorem State.setStm_now (s : State) (x : Stm) : (s.setStm x).now = s.now := rfl
@[simp] theorem State.setStm_freeDraws (s : State) (x : Stm) : (s.setStm x).freeDraws = s.freeDraws := rfl
@[simp] theorem State.setStm_trc (s : State) (x : Stm) : (s.setStm x).trc = s.trc := rfl
@[simp] theorem State.setStm_settings (s : State) (x : Stm) : (s.setStm x).settings = s.settings := rfl
@[simp] theorem State.setStm_lgp (s : State) (x : Stm) : (s.setStm x).lgp = s.lgp := rfl
@[simp] theorem State.setStm_stm (s : State) (x : Stm) : (s.setStm x).stm = x := rfl
@[simp] theorem State.setStm_ckt (s : State) (x : Stm) : (s.setStm x).ckt = s.ckt := rfl
@[simp] theorem State.setStm_scan (s : State) (x : Stm) : (s.setStm x).scan = s.scan := rfl
@[simp] theorem State.setStm_bsv (s : State) (x : Stm) : (s.setStm x).bsv = s.bsv := rfl
@[simp] theorem State.setStm_ppc (s : State) (x : Stm) : (s.setStm x).ppc = s.ppc := rfl
@[simp] theorem State.setStm_sup (s : State) (x : Stm) : (s.setStm x).sup = s.sup := rfl
@[simp] theorem State.setStm_rpu (s : State) (x : Stm) : (s.setStm x).rpu = s.rpu := rfl
@[simp] theorem State.setStm_setStm (s : State) (x y : Stm) : (s.setStm x).setStm y = s.setStm y := rfl

@[simp] theorem State.setCkt_pending (s : State) (x : Ckt) : (s.setCkt x).pending = s.pending := rfl
@[simp] theorem State.setCkt_now (s : State) (x : Ckt) : (s.setCkt x).now = s.now := rfl
@[simp] theorem State.setCkt_freeDraws (s : State) (x : Ckt) : (s.setCkt x).freeDraws = s.freeDraws := rfl
@[simp] theorem State.setCkt_trc (s : State) (x : Ckt) : (s.setCkt x).trc = s.trc := rfl
@[simp] theorem State.setCkt_settings (s : State) (x : Ckt) : (s.setCkt x).settings = s.settings := rfl
@[simp] theorem State.setCkt_lgp (s : State) (x : Ckt) : (s.setCkt x).lgp = s.lgp := rfl
@[simp] theorem State.setCkt_stm (s : State) (x : Ckt) : (s.setCkt x).stm = s.stm := rfl
@[simp] theorem State.setCkt_ckt (s : State) (x : Ckt) : (s.setCkt x).ckt = x := rfl
@[simp] theorem State.setCkt_scan (s : State) (x : Ckt) : (s.setCkt x).scan = s.scan := rfl
@[simp] theorem State.setCkt_bsv (s : State) (x : Ckt) : (s.setCkt x).bsv = s.bsv := rfl
@[simp] theorem State.setCkt_ppc (s : State) (x : Ckt) : (s.setCkt x).ppc = s.ppc := rfl
@[simp] theorem State.setCkt_sup (s : State) (x : Ckt) : (s.setCkt x).sup = s.sup := rfl
@[simp] theorem State.setCkt_rpu (s : State) (x : Ckt) : (s.setCkt x).rpu = s.rpu := rfl
@[simp] theorem State.setCkt_setCkt (s : State) (x y : Ckt) : (s.setCkt x).setCkt y = s.setCkt y := rfl

@[simp] theorem State.setScan_pending (s : State) (x : Option ScanContext) : (s.setScan x).pending = s.pending := rfl
@[simp] theorem State.setScan_now (s : State) (x : Option ScanContext) : (s.setScan x).now = s.now := rfl
@[simp] theorem State.setScan_freeDraws (s : State) (x : Option ScanContext) : (s.setScan x).freeDraws = s.freeDraws := rfl
@[simp] theorem State.setScan_trc (s : State) (x : Option ScanContext) : (s.setScan x).trc = s.trc := rfl
@[simp] theorem State.setScan_settings (s : State) (x : Option ScanContext) : (s.setScan x).settings = s.settings := rfl
@[simp] theorem State.setScan_lgp (s : State) (x : Option ScanContext) : (s.setScan x).lgp = s.lgp := rfl
@[simp] theorem State.setScan_stm (s : State) (x : Option ScanContext) : (s.setScan x).stm = s.stm := rfl
@[simp] theorem State.setScan_ckt (s : State) (x : Option ScanContext) : (s.setScan x).ckt = s.ckt := rfl
@[simp] theorem State.setScan_scan (s : State) (x : Option ScanContext) : (s.setScan x).scan = x := rfl
@[simp] theorem State.setScan_bsv (s : State) (x : Option ScanContext) : (s.setScan x).bsv = s.bsv := rfl
@[simp] theorem State.setScan_ppc (s : State) (x : Option ScanContext) : (s.setScan x).ppc = s.ppc := rfl
@[simp] theorem State.setScan_sup (s : State) (x : Option ScanContext) : (s.setScan x).sup = s.sup := rfl
@[simp] theorem State.setScan_rpu (s : State) (x : Option ScanContext) : (s.setScan x).rpu = s.rpu := rfl
@[simp] theorem State.setScan_setScan (s : State) (x y : Option ScanContext) : (s.setScan x).setScan y = s.setScan y := rfl

@[simp] theorem State.setBsv_pending (s : State) (x : Bsv) : (s.setBsv x).pending = s.pending := rfl
@[simp] theorem State.setBsv_now (s : State) (x : Bsv) : (s.setBsv x).now = s.now := rfl
@[simp] theorem State.setBsv_freeDraws (s : State) (x : Bsv) : (s.setBsv x).freeDraws = s.freeDraws := rfl
@[simp] theorem State.setBsv_trc (s : State) (x : Bsv) : (s.setBsv x).trc = s.trc := rfl
@[simp] theorem State.setBsv_settings (s : State) (x : Bsv) : (s.setBsv x).settings = s.settings := rfl
@[simp] theorem State.setBsv_lgp (s : State) (x : Bsv) : (s.setBsv x).lgp = s.lgp := rfl
@[simp] theorem State.setBsv_stm (s : State) (x : Bsv) : (s.setBsv x).stm = s.stm := rfl
@[simp] theorem State.setBsv_ckt (s : State) (x : Bsv) : (s.setBsv x).ckt = s.ckt := rfl
@[simp] theorem State.setBsv_scan (s : State) (x : Bsv) : (s.setBsv x).scan = s.scan := rfl
@[simp] theorem State.setBsv_bsv (s : State) (x : Bsv) : (s.setBsv x).bsv = x := rfl
@[simp] theorem State.setBsv_ppc (s : State) (x : Bsv) : (s.setBsv x).ppc = s.ppc := rfl
@[simp] theorem State.setBsv_sup (s : State) (x : Bsv) : (s.setBsv x).sup = s.sup := rfl
@[simp] theorem State.setBsv_rpu (s : State) (x : Bsv) : (s.setBsv x).rpu = s.rpu := rfl
@[simp] theorem State.setBsv_setBsv (s : State) (x y : Bsv) : (s.setBsv x).setBsv y = s.setBsv y := rfl

@[simp] theorem State.setPpc_pending (s : State) (x : Ppc) : (s.setPpc x).pending = s.pending := rfl
@[simp] theorem State.setPpc_now (s : State) (x : Ppc) : (s.setPpc x).now = s.now := rfl
@[simp] theorem State.setPpc_freeDraws (s : State) (x : Ppc) : (s.setPpc x).freeDraws = s.freeDraws := rfl
@[simp] theorem State.setPpc_trc (s : State) (x : Ppc) : (s.setPpc x).trc = s.trc := rfl
@[simp] theorem State.setPpc_settings (s : State) (x : Ppc) : (s.setPpc x).settings = s.settings := rfl
@[simp] theorem State.setPpc_lgp (s : State) (x : Ppc) : (s.setPpc x).lgp = s.lgp := rfl
@[simp] theorem State.setPpc_stm (s : State) (x : Ppc) : (s.setPpc x).stm = s.stm := rfl
@[simp] theorem State.setPpc_ckt (s : State) (x : Ppc) : (s.setPpc x).ckt = s.ckt := rfl
@[simp] theorem State.setPpc_scan (s : State) (x : Ppc) : (s.setPpc x).scan = s.scan := rfl
@[simp] theorem State.setPpc_bsv (s : State) (x : Ppc) : (s.setPpc x).bsv = s.bsv := rfl
@[simp] theorem State.setPpc_ppc (s : State) (x : Ppc) : (s.setPpc x).ppc = x := rfl
@[simp] theorem State.setPpc_sup (s : State) (x : Ppc) : (s.setPpc x).sup = s.sup := rfl
@[simp] theorem State.setPpc_rpu (s : State) (x : Ppc) : (s.setPpc x).rpu = s.rpu := rfl
@[simp] theorem State.setPpc_setPpc (s : State) (x y : Ppc) : (s.setPpc x).setPpc y = s.setPpc y := rfl

@[simp] theorem State.setSup_pending (s : State) (x : Sup) : (s.setSup x).pending = s.pending := rfl
@[simp] theorem State.setSup_now (s : State) (x : Sup) : (s.setSup x).now = s.now := rfl
@[simp] theorem State.setSup_freeDraws (s : State) (x : Sup) : (s.setSup x).freeDraws = s.freeDraws := rfl
@[simp] theorem State.setSup_trc (s : State) (x : Sup) : (s.setSup x).trc = s.trc := rfl
@[simp] theorem State.setSup_settings (s : State) (x : Sup) : (s.setSup x).settings = s.settings := rfl
@[simp] theorem State.setSup_lgp (s : State) (x : Sup) : (s.setSup x).lgp = s.lgp := rfl
@[simp] theorem State.setSup_stm (s : State) (x : Sup) : (s.setSup x).stm = s.stm := rfl
@[simp] theorem State.setSup_ckt (s : State) (x : Sup) : (s.setSup x).ckt = s.ckt := rfl
@[simp] theorem State.setSup_scan (s : State) (x : Sup) : (s.setSup x).scan = s.scan := rfl
@[simp] theorem State.setSup_bsv (s : State) (x : Sup) : (s.setSup x).bsv = s.bsv := rfl
@[simp] theorem State.setSup_ppc (s : State) (x : Sup) : (s.setSup x).ppc = s.ppc := rfl
@[simp] theorem State.setSup_sup (s : State) (x : Sup) : (s.setSup x).sup = x := rfl
@[simp] theorem State.setSup_rpu (s : State) (x : Sup) : (s.setSup x).rpu = s.rpu := rfl
@[simp] theorem State.setSup_setSup (s : State) (x y : Sup) : (s.setSup x).setSup y = s.setSup y := rfl

@[simp] theorem State.setRpu_pending (s : State) (x : Rpu) : (s.setRpu x).pending = s.pending := rfl
@[simp] theorem State.setRpu_now (s : State) (x : Rpu) : (s.setRpu x).now = s.now := rfl
@[simp] theorem State.setRpu_freeDraws (s : State) (x : Rpu) : (s.setRpu x).freeDraws = s.freeDraws := rfl
@[simp] theorem State.setRpu_trc (s : State) (x : Rpu) : (s.setRpu x).trc = s.trc := rfl
@[simp] theorem State.setRpu_settings (s : State) (x : Rpu) : (s.setRpu x).settings = s.settings := rfl
@[simp] theorem State.setRpu_lgp (s : State) (x : Rpu) : (s.setRpu x).lgp = s.lgp := rfl
@[simp] theorem State.setRpu_stm (s : State) (x : Rpu) : (s.setRpu x).stm = s.stm := rfl
@[simp] theorem State.setRpu_ckt (s : State) (x : Rpu) : (s.setRpu x).ckt = s.ckt := rfl
@[simp] theorem State.setRpu_scan (s : State) (x : Rpu) : (s.setRpu x).scan = s.scan := rfl
@[simp] theorem State.setRpu_bsv (s : State) (x : Rpu) : (s.setRpu x).bsv = s.bsv := rfl
@[simp] theorem State.setRpu_ppc (s : State) (x : Rpu) : (s.setRpu x).ppc = s.ppc := rfl
@[simp] theorem State.setRpu_sup (s : State) (x : Rpu) : (s.setRpu x).sup = s.sup := rfl
@[simp] theorem State.setRpu_rpu (s : State) (x : Rpu) : (s.setRpu x).rpu = x := rfl
@[simp] theorem State.setRpu_setRpu (s : State) (x y : Rpu) : (s.setRpu x).setRpu y = s.setRpu y := rfl

end Sys2Proof.Machine
end

