-- ==== Sys2Proof/Laws/Ops.lean ====
section
/-!
SUPPORT. What each shared operation does, said once: an operation equals one record update of the state before. A prover
rewrites with these and never unfolds the operation; the frame lemmas tagged simp say what an operation leaves alone.
-/

namespace Sys2Proof.Machine

/-! ### Time, events, the flash port (Ops) -/

theorem elapse_eq (n : Nat) (s : State) : elapse n s = { s with
    now := s.now + n, bsv := { s.bsv with confirmTimer := s.bsv.confirmTimer.map (· - n) } } := rfl

theorem elapseTo_eq (t : Nat) (s : State) : elapseTo t s = elapse (t - s.now) s := rfl

@[simp] theorem elapse_frame (n : Nat) (s : State) :
    (elapse n s).pending = s.pending ∧ (elapse n s).freeDraws = s.freeDraws ∧ (elapse n s).trc = s.trc ∧
    (elapse n s).settings = s.settings ∧ (elapse n s).lgp = s.lgp ∧ (elapse n s).stm = s.stm ∧
    (elapse n s).ckt = s.ckt ∧ (elapse n s).scan = s.scan ∧ (elapse n s).ppc = s.ppc ∧ (elapse n s).sup = s.sup ∧
    (elapse n s).rpu = s.rpu := ⟨rfl, rfl, rfl, rfl, rfl, rfl, rfl, rfl, rfl, rfl, rfl⟩

@[simp] theorem elapseTo_frame (t : Nat) (s : State) :
    (elapseTo t s).pending = s.pending ∧ (elapseTo t s).freeDraws = s.freeDraws ∧ (elapseTo t s).trc = s.trc ∧
    (elapseTo t s).settings = s.settings ∧ (elapseTo t s).lgp = s.lgp ∧ (elapseTo t s).stm = s.stm ∧
    (elapseTo t s).ckt = s.ckt ∧ (elapseTo t s).scan = s.scan ∧ (elapseTo t s).ppc = s.ppc ∧
    (elapseTo t s).sup = s.sup ∧ (elapseTo t s).rpu = s.rpu := elapse_frame _ _

/-- Time passing changes no field of the Boot Supervisor but the confirm timer. -/
@[simp] theorem elapse_bsv (n : Nat) (s : State) :
    (elapse n s).bsv = { s.bsv with confirmTimer := s.bsv.confirmTimer.map (· - n) } := rfl

theorem elapse_zero (s : State) : elapse 0 s = s := by
  rw [elapse_eq]; cases h : s.bsv.confirmTimer <;> simp <;> rw [← h]

theorem postWith_eq (kind : EventKind) (seq : Word16) (detail : Word32) (s : State) :
    postWith kind seq detail s = { s with rpu := s.rpu.post kind seq detail } := rfl

theorem post_eq (kind : EventKind) (detail : Word32) (s : State) :
    post kind detail s = { s with rpu := s.rpu.post kind (defaultSeq s) detail } := rfl

@[simp] theorem postWith_frame (kind : EventKind) (seq : Word16) (detail : Word32) (s : State) :
    (postWith kind seq detail s).pending = s.pending ∧ (postWith kind seq detail s).now = s.now ∧
    (postWith kind seq detail s).freeDraws = s.freeDraws ∧ (postWith kind seq detail s).trc = s.trc ∧
    (postWith kind seq detail s).settings = s.settings ∧ (postWith kind seq detail s).lgp = s.lgp ∧
    (postWith kind seq detail s).stm = s.stm ∧ (postWith kind seq detail s).ckt = s.ckt ∧
    (postWith kind seq detail s).scan = s.scan ∧ (postWith kind seq detail s).bsv = s.bsv ∧
    (postWith kind seq detail s).ppc = s.ppc ∧ (postWith kind seq detail s).sup = s.sup :=
  ⟨rfl, rfl, rfl, rfl, rfl, rfl, rfl, rfl, rfl, rfl, rfl, rfl⟩

@[simp] theorem post_frame (kind : EventKind) (detail : Word32) (s : State) :
    (post kind detail s).pending = s.pending ∧ (post kind detail s).now = s.now ∧
    (post kind detail s).freeDraws = s.freeDraws ∧ (post kind detail s).trc = s.trc ∧
    (post kind detail s).settings = s.settings ∧ (post kind detail s).lgp = s.lgp ∧
    (post kind detail s).stm = s.stm ∧ (post kind detail s).ckt = s.ckt ∧ (post kind detail s).scan = s.scan ∧
    (post kind detail s).bsv = s.bsv ∧ (post kind detail s).ppc = s.ppc ∧ (post kind detail s).sup = s.sup :=
  postWith_frame _ _ _ _

/-- A posting keeps the list's keys as a prefix and the snapshot as it is (R147, R148). -/
theorem Rpu.post_keys (r : Rpu) (kind : EventKind) (seq : Word16) (detail : Word32) :
    r.events.map Event.key <+: (r.post kind seq detail).events.map Event.key ∧
      (r.post kind seq detail).snapshot = r.snapshot := by
  unfold Rpu.post
  cases h : r.events.getLast? with
  | none => constructor <;> (simp only []; split) <;> simp
  | some newest =>
    obtain ⟨older, h⟩ := List.getLast?_eq_some_iff.1 h
    by_cases hk : newest.kind = kind ∧ newest.detail = detail
    · simp [h, hk, Event.key]
    · constructor <;> (simp only [hk, if_false]; split) <;> simp

theorem releaseFlash_eq (s : State) : releaseFlash s = { s with trc := { s.trc with flash := none } } := rfl

theorem releaseScanRead_eq (s : State) : releaseScanRead s = { s with
    trc := if s.trc.flash.map FlashTxn.owner = some .scan then { s.trc with flash := none } else s.trc } := by
  unfold releaseScanRead; split <;> rfl

/-- The bytes of an address as its digits to the base 256, the highest first. -/
theorem addrBytes_eq (a : Addr) : addrBytes a =
    [BitVec.ofNat 8 (a.toNat / 65536), BitVec.ofNat 8 (a.toNat / 256 % 256), BitVec.ofNat 8 (a.toNat % 256)] := by
  simp only [addrBytes, List.cons.injEq, and_true]
  refine ⟨?_, ?_, ?_⟩ <;> apply BitVec.eq_of_toNat_eq <;> simp [Nat.shiftRight_eq_div_pow]

theorem takePort_eq (f : FlashTxn) (s : State) : takePort f s = { s with trc := { s.trc with flash := some f } } := rfl

/-! ### The Chunk Tracker (Tracker) -/

theorem dropScan_eq (s : State) : dropScan s = { s with
    scan := none
    trc := if s.trc.flash.map FlashTxn.owner = some .scan then { s.trc with flash := none } else s.trc } := by
  simp only [dropScan, releaseScanRead_eq]; rfl

theorem purge_eq (s : State) : purge s = { s with
    ckt := { chunks := s.ckt.chunks.map fun c => if c.state = .scanning then { c with state := .dirty } else c
             queue := [] }
    scan := none
    trc := if s.trc.flash.map FlashTxn.owner = some .scan then { s.trc with flash := none } else s.trc } := by
  simp only [purge, dropScan_eq]; rfl

theorem discardChunks_eq (s : State) : discardChunks s = { s with
    ckt := { chunks := [], queue := [] }
    scan := none
    trc := if s.trc.flash.map FlashTxn.owner = some .scan then { s.trc with flash := none } else s.trc } := by
  simp only [discardChunks, dropScan_eq]; rfl

theorem updateChunk_eq (r : ChunkRef) (f : Chunk → Chunk) (s : State) : updateChunk r f s = { s with
    ckt := { s.ckt with chunks := s.ckt.chunks.map fun c => if c.ref = r then f c else c } } := rfl

theorem moveChunk_eq (r : ChunkRef) (st : ChunkState) (s : State) : moveChunk r st s = { s with
    ckt := { s.ckt with chunks := s.ckt.chunks.map fun c => if c.ref = r then { c with state := st } else c } } := rfl

theorem enqueue_eq (r : ChunkRef) (s : State) : enqueue r s = { s with
    ckt := { s.ckt with queue := if served s then s.ckt.queue ++ [r] else s.ckt.queue } } := by
  unfold enqueue; split <;> rfl

theorem dequeue_eq (r : ChunkRef) (s : State) : dequeue r s = { s with
    ckt := { s.ckt with queue := s.ckt.queue.filter fun q => q ≠ r } } := rfl

theorem setSetState_eq (x : SetState) (s : State) :
    setSetState x s = { s with stm := { s.stm with setState := x } } := rfl

theorem enterReady_eq (s : State) : enterReady s = { s with
    stm := { s.stm with setState := .ready }
    rpu := s.rpu.post .setReady (defaultSeq s) (detailCount s.ckt.chunks.length) } := rfl

theorem reportAllGood_eq (s : State) :
    reportAllGood s = if s.stm.setState = .closed then enterReady s else s := rfl

theorem reportLeftGood_eq (s : State) : reportLeftGood s = { s with
    stm := { s.stm with setState := if s.stm.setState = .ready then .closed else s.stm.setState } } := by
  unfold reportLeftGood; split <;> rfl

/-- The operation on each of a list of chunks, the first chunk first. -/
theorem forEachChunk_cons (f : Chunk → State → State) (c : Chunk) (cs : List Chunk) (s : State) :
    forEachChunk f (c :: cs) s = forEachChunk f cs (f c s) := rfl

/-- A property that every operation on a chunk of the list keeps, the whole keeps. -/
theorem forEachChunk_keeps {p : State → Prop} {f : Chunk → State → State} {cs : List Chunk} {s : State}
    (h : ∀ c ∈ cs, ∀ t, p t → p (f c t)) (hs : p s) : p (forEachChunk f cs s) := by
  induction cs generalizing s with
  | nil => exact hs
  | cons c cs ih => exact ih (fun d hd => h d (List.mem_cons_of_mem c hd)) (h c List.mem_cons_self s hs)

theorem programChunk_eq (c : Chunk) (s : State) : programChunk c s =
    let t := updateChunk c.ref (fun c => { c with written := true }) s
    match c.state with
    | .uncoded | .dirty => t
    | .erased | .bad => enqueue c.ref (moveChunk c.ref .dirty t)
    | .scanning => enqueue c.ref (moveChunk c.ref .dirty (dropScan t))
    | .good => reportLeftGood (enqueue c.ref (moveChunk c.ref .dirty t)) := rfl

/-- A served queue depends on the part state and the set state alone. -/
theorem served_congr {s t : State} (h : t.sup.part = s.sup.part) (h' : t.stm.setState = s.stm.setState) :
    served t = served s := by simp [served, h, h']

theorem createChunks_eq (comp count : Nat) (s : State) : createChunks comp count s = { s with
    ckt := { s.ckt with chunks := (s.ckt.chunks.filter fun c => c.ref.comp < comp) ++ newChunks comp count ++
      (s.ckt.chunks.filter fun c => comp < c.ref.comp) } } := rfl

/-! ### The Boot Supervisor (Boot) -/

theorem enterFrozen_eq (x : SetState) (s : State) : enterFrozen x s = { s with
    stm := { s.stm with setState := x }
    ckt := { chunks := s.ckt.chunks.map fun c => if c.state = .scanning then { c with state := .dirty } else c
             queue := [] }
    scan := none
    trc := if s.trc.flash.map FlashTxn.owner = some .scan then { s.trc with flash := none } else s.trc } := by
  simp only [enterFrozen, purge_eq]; rfl

theorem nextEntry_eq (e : JournalEntry) : nextEntry e = freshEntry e := rfl

theorem beginWrite_eq (kind : EntryKind) (entry : JournalEntry) (s : State) :
    beginWrite kind entry s = { s with bsv := writing s kind entry } := rfl

theorem landEntry_eq (entry : JournalEntry) (s : State) : landEntry entry s = { s with bsv := landed s.bsv entry } := rfl

theorem failWrite_eq (kind : EntryKind) (step : FailStep) (s : State) : failWrite kind step s = { s with
    bsv := { s.bsv with inFlight := none, retryWait := none }
    rpu := s.rpu.post .journalFailed (defaultSeq s)
      (detailBytes (byteOf (entryKindCode kind)) (byteOf (failStepCode step))) } := rfl

/-- R118: the step a reply shows to have failed, as the statements word it. -/
theorem writeOutcome_iff (sent : List Byte) (p : PortReply) (step : FailStep) :
    writeOutcome sent p = some step ↔ FailsAt sent p step := by
  unfold writeOutcome FailsAt
  cases h : p.status.getLsbD 0 <;> cases h' : p.completed <;> by_cases hr : p.readBack = sent <;>
    simp [hr, eq_comm]

theorem assertMrst_eq (s : State) : assertMrst s = { s with
    bsv := { s.bsv with mrst := some (s.bsv.mrst.getD s.now), releaseDue := none } } := rfl

theorem dueRelease_eq (e : ReleaseEvent) (s : State) : dueRelease e s = { s with
    bsv := { s.bsv with releaseDue := some e, confirmTaken := false } } := rfl

theorem startTimer_eq (s : State) : startTimer s = { s with
    bsv := { s.bsv with confirmTimer := some (2 ^ s.settings.confirmExp * 250) } } := rfl

theorem stopTimer_eq (s : State) : stopTimer s = { s with bsv := { s.bsv with confirmTimer := none } } := rfl

theorem holdDemand_eq (r : RevertReason) (s : State) : holdDemand r s = { s with
    bsv := { s.bsv with demand := some (s.bsv.demand.getD r) } } := rfl

theorem revertFails_eq (step : FailStep) (s : State) : revertFails step s = { s with
    rpu := s.rpu.post .journalFailed (defaultSeq s) (detailBytes 4 (byteOf (failStepCode step)))
    bsv := if s.sup.part = .starting then { s.bsv with inFlight := none, retryWait := none, demand := none }
      else { writing s .revert (revertEntry s.bsv.image) with retryWait := some s.now }
    sup := if s.sup.part = .starting then { s.sup with markDegraded := true, step := .rebuild } else s.sup } := by
  by_cases h : s.sup.part = .starting <;> simp only [revertFails, failWrite_eq, h, if_true, if_false] <;> rfl

/-- R130: a revert begins: at once in flight, or failed at once at the last generation. -/
theorem beginRevert_eq (s : State) : beginRevert s =
    let t : State := { s with bsv := { s.bsv with
      confirmTimer := none, mrst := some (s.bsv.mrst.getD s.now), releaseDue := none } }
    if s.bsv.image.generation = 0xFFFFFFFE#32 then revertFails .atOnce t
    else { t with bsv := writing t .revert (revertEntry s.bsv.image) } := by
  unfold beginRevert writeRevert
  simp only [generationSpent, beq_iff_eq]; rfl

/-- R117, R130, R131: a revert begun at the last generation fails at once. -/
theorem beginRevert_spent {s : State} (h : s.bsv.image.generation = 0xFFFFFFFE#32) : beginRevert s = { s with
    rpu := s.rpu.post .journalFailed (defaultSeq s) (detailBytes 4 0)
    bsv := revertSpent s s.bsv.demand, sup := supSpent s } := by
  rw [beginRevert_eq]
  simp only [h, if_true, revertFails_eq, revertSpent, supSpent]
  split <;> rfl

/-- What the journal operations leave alone: the settings, the Log Parser and the Chunk Tracker. -/
@[simp] theorem beginRevert_frame (s : State) :
    (beginRevert s).settings = s.settings ∧ (beginRevert s).lgp = s.lgp ∧ (beginRevert s).stm = s.stm ∧
    (beginRevert s).ckt = s.ckt ∧ (beginRevert s).scan = s.scan ∧ (beginRevert s).trc = s.trc ∧
    (beginRevert s).ppc = s.ppc ∧ (beginRevert s).pending = s.pending := by
  rw [beginRevert_eq]; simp only [revertFails_eq]
  split <;> exact ⟨rfl, rfl, rfl, rfl, rfl, rfl, rfl, rfl⟩

@[simp] theorem demandRevert_frame (r : RevertReason) (s : State) :
    (demandRevert r s).settings = s.settings ∧ (demandRevert r s).lgp = s.lgp ∧ (demandRevert r s).stm = s.stm ∧
    (demandRevert r s).ckt = s.ckt ∧ (demandRevert r s).scan = s.scan ∧ (demandRevert r s).trc = s.trc ∧
    (demandRevert r s).ppc = s.ppc ∧ (demandRevert r s).pending = s.pending := by
  unfold demandRevert; simp only []; split
  · exact beginRevert_frame _
  · exact ⟨rfl, rfl, rfl, rfl, rfl, rfl, rfl, rfl⟩

@[simp] theorem trialStart_frame (s : State) :
    (trialStart s).settings = s.settings ∧ (trialStart s).lgp = s.lgp ∧ (trialStart s).stm = s.stm ∧
    (trialStart s).ckt = s.ckt ∧ (trialStart s).scan = s.scan ∧ (trialStart s).trc = s.trc ∧
    (trialStart s).ppc = s.ppc ∧ (trialStart s).pending = s.pending := by
  unfold trialStart; split
  · exact beginRevert_frame _
  · split
    · exact beginRevert_frame _
    · exact ⟨rfl, rfl, rfl, rfl, rfl, rfl, rfl, rfl⟩

/-! ### The Set Manager (Sets) -/

theorem refuseByte_eq (kind : Byte) (reason : RefuseReason) (r : Record) (s : State) :
    Host.Outcome.next (refuseByte kind reason r s) = refusedRecord kind reason r s := rfl

theorem refuse_eq (kind : RecordKind) (reason : RefuseReason) (r : Record) (s : State) :
    Host.Outcome.next (refuse kind reason r s) = refusedRecord (byteOf (recordKindCode kind)) reason r s := rfl

theorem reject_eq (reason : RejectReason) (comp : Byte) (s : State) : reject reason comp s = { s with
    stm := { s.stm with setState := .rejected, reason := some reason }
    ckt := { chunks := s.ckt.chunks.map fun c => if c.state = .scanning then { c with state := .dirty } else c
             queue := [] }
    scan := none
    trc := if s.trc.flash.map FlashTxn.owner = some .scan then { s.trc with flash := none } else s.trc
    rpu := s.rpu.post .setRejected (defaultSeq s) (detailBytes (byteOf (rejectCode reason)) comp) } := by
  simp only [reject, enterFrozen_eq, post_eq]; rfl

/-- R60: a record with a body names its first byte; an empty one draws a free value. -/
theorem rejectNamed_eq (reason : RejectReason) (r : Record) (s : State) : rejectNamed reason r s =
    match r.body with
    | k :: _ => reject reason k s
    | [] => reject reason (Config.unnamedIndex s.freeDraws) (s.setFreeDraws (s.freeDraws + 1)) := rfl

theorem acceptOpen_eq (cs : CurrentSet) (r : Record) (s : State) : acceptOpen cs r s = { s with
    stm := { setState := .receiving, set := some cs, comps := Vector.replicate 8 none, accepted := 1
             digest := some (laneStep (digestSeed cs.seq) r.check.toNat), reason := none, mismatchTotal := 0
             logHigh := cs.seq }
    ckt := { chunks := [], queue := [] }
    scan := none
    trc := if s.trc.flash.map FlashTxn.owner = some .scan then { s.trc with flash := none } else s.trc } := by
  simp only [acceptOpen, discardChunks_eq]; rfl

theorem enterIdle_eq (s : State) : enterIdle s = { s with
    stm := Stm.start
    ckt := { chunks := [], queue := [] }
    scan := none
    trc := if s.trc.flash.map FlashTxn.owner = some .scan then { s.trc with flash := none } else s.trc } := by
  simp only [enterIdle, discardChunks_eq]; rfl

theorem countRecord_eq (r : Record) (s : State) : countRecord r s = { s with stm := { s.stm with
    accepted := s.stm.accepted + 1, digest := s.stm.digest.map fun l => laneStep l r.check.toNat } } := rfl

theorem putComponent_eq (k : Nat) (c : Component) (s : State) : putComponent k c s = { s with
    stm := { s.stm with comps := s.stm.comps.setIfInBounds k (some c) } } := rfl

/-- The component at an index after a position has been taken. -/
theorem componentAt_putComponent (k j : Nat) (c : Component) (s : State) (h : k < 8) :
    componentAt (putComponent k c s) j = if j = k then some c else componentAt s j := by
  simp only [componentAt, putComponent_eq, Vector.toList_setIfInBounds, List.getD_eq_getElem?_getD, List.getElem?_set]
  by_cases hj : k = j
  · subst hj; simp [h]
  · simp [hj, Ne.symm hj]

/-- The gate of R59 as the statements word it. -/
theorem gate_of_passes {s : State} {r : Record} {cs : CurrentSet} (h : PassesGate s r cs) : gate r s = .ok cs := by
  simp [gate, h.set_eq, h.receiving, h.seq_eq]

/-- A hand-off in RUN, with no transaction open or within an append, is made (R47). -/
theorem handsRecord_of_handed {s : State} (h : Handed s) : handsRecord s = true := by
  obtain ⟨h1, h2⟩ := h
  simp only [handsRecord, h1, beq_self_eq_true, Bool.true_and]
  rcases h2 with h | h
  · simp [h]
  · cases hc : s.trc.txn.cut <;> simp_all

/-! ### The Log Parser (Log) -/

theorem tearRecord_eq (start cells : Nat) (s : State) : tearRecord start cells s = { s with
    lgp := { s.lgp with appendPoint := min 16384 (start + 32 * cells), buffer := [], phase := .awaitingHeader }
    rpu := s.rpu.post .recordTorn (defaultSeq s) (detailAddr (areaAddr s.settings start)) } := rfl

theorem moveCursor_eq (o : Nat) (s : State) : moveCursor o s = { s with
    lgp := if 16384 ≤ o then { s.lgp with cursor := 16384, logEnded := true, appendPoint := 16384 }
      else { s.lgp with cursor := o } } := by
  unfold moveCursor areaSize; split <;> rfl

theorem afterRead_eq (s : State) : afterRead s = { s with
    lgp := { s.lgp with pollOwed := s.trc.busy.isSome && s.trc.stuck } } := rfl

/-- R54: the read of a sector's kind bytes moves its flag, the cursor and the poll owed, and nothing else. -/
theorem readSector_eq (kinds : List Byte) (s : State) : readSector kinds s =
    if s.lgp.cursor < 12288 ∧ kinds.length = 128 - s.lgp.cursor / 32 % 128 then { s with lgp := { s.lgp with
      clean := s.lgp.clean.set (sectorOfOffset s.lgp.cursor) (kinds.all (· == 0xFF#8))
      cursor := (s.lgp.cursor / 4096 + 1) * 4096, pollOwed := s.trc.busy.isSome && s.trc.stuck } }
    else s := by
  have h : s.lgp.cursor < 12288 → kindBytesLeft s.lgp = 128 - s.lgp.cursor / 32 % 128 := fun h => by
    unfold kindBytesLeft areaSize; rw [if_pos (by omega)]
  unfold readSector lastSector
  by_cases hc : s.lgp.cursor < 12288
  · simp only [hc, true_and, h hc]; split <;> rfl
  · simp [hc]

/-! ### The Traffic Controller (FlashPort, Upstream) -/

theorem trackBusy_eq (b : Byte) (s : State) : trackBusy b s = { s with trc := { s.trc with
    busy := if b.getLsbD s.settings.busyBit then some (s.trc.busy.getD { since := s.now, kind := .erase, addr := 0 })
      else none
    stuck := if b.getLsbD s.settings.busyBit then s.trc.stuck
      else if s.trc.busy = none then s.trc.stuck else false } } := by
  unfold trackBusy
  cases h : b.getLsbD s.settings.busyBit <;> cases h' : s.trc.busy
  · simp only [Bool.false_eq_true, if_false, if_true, ← h']
  · simp [State.setTrc]
  · simp [State.setTrc]
  · simp only [if_true, Option.getD_some]; rw [← h']

theorem decideTxn_eq (c : CmdClass) (a : Option Addr) (d : Disposition) (f : Option FlashTxn) (s : State) :
    decideTxn c a d f s = { s with trc := { s.trc with
      txn := { s.trc.txn with cls := some c, start := a, running := a, disposition := some d }, flash := f } } := rfl

theorem suppressWrite_eq (c : CmdClass) (a : Option Addr) (s : State) : suppressWrite c a s = { s with
    trc := { s.trc with
      txn := { s.trc.txn with cls := some c, start := a, running := a, disposition := some .suppress }
      flash := none, cleanup := true }
    rpu := s.rpu.post .suppressedWrite (defaultSeq s) (detailWrite c (a.getD 0)) } := rfl

theorem postFilled_eq (a : Addr) (s : State) : postFilled a s = { s with
    rpu := if (lookup s.settings (granuleOf a)).outOfRange then
      ((s.rpu.post .filledRead (defaultSeq s) (detailAddr a)).post .outOfRange (defaultSeq s) (detailAddr a))
    else s.rpu.post .filledRead (defaultSeq s) (detailAddr a) } := by
  simp only [postFilled, post_frame]; split <;> rfl

theorem closeTxn_eq (s : State) : closeTxn s = { s with
    trc := { s.trc with txn := Txn.closed, flash := none }, rpu := { s.rpu with snapshot := none } } := rfl

theorem startBusy_eq (k : PeriodKind) (a : Addr) (s : State) : startBusy k a s = { s with
    trc := { s.trc with busy := some { since := s.now, kind := k, addr := a }, stuck := false } } := rfl

theorem enterClass_eq (c : CmdClass) (s : State) : enterClass c s = { s with trc := { s.trc with
    txn := { s.trc.txn with cls := some c } } } := rfl

theorem sendBytes_eq (n : Nat) (s : State) : sendBytes n s = { s with trc := { s.trc with txn := { s.trc.txn with
    running := s.trc.txn.running.map fun a => BitVec.ofNat 24 (a.toNat + n)
    run := s.trc.txn.run.map fun run => { run with
      flashAddr := (run.flashAddr + n) % 2 ^ s.settings.flashExp } } } } := rfl

/-- The bytes up to a granule's end bring an address to the base of the next granule, modulo 2^24 (R35). -/
theorem bytesToCrossing_add (a n : Addr) (h : n.toNat = (a.toNat / 4096 + 1) % 4096 * 4096) :
    BitVec.ofNat 24 (a.toNat + bytesToCrossing a) = n := by
  have ha := a.isLt
  apply BitVec.eq_of_toNat_eq
  simp only [BitVec.toNat_ofNat, bytesToCrossing, h]
  omega

theorem turnToFill_eq (a : Addr) (s : State) : turnToFill a s = { s with
    trc := { s.trc with
      txn := { s.trc.txn with running := some a, disposition := some .fill, run := none }, flash := none }
    rpu := if (lookup s.settings (granuleOf a)).outOfRange then
      ((s.rpu.post .filledRead (defaultSeq s) (detailAddr a)).post .outOfRange (defaultSeq s) (detailAddr a))
    else s.rpu.post .filledRead (defaultSeq s) (detailAddr a) } := by
  simp only [turnToFill, postFilled_eq]; rfl

theorem sendOn_eq (b : Byte) (s : State) : sendOn b s = { s with trc := { s.trc with
    flash := s.trc.flash.map fun f => { f with data := f.data ++ [b] } } } := rfl

/-- A byte sent on stands last on FDO. -/
theorem flashBytes_sent (f : FlashTxn) (b : Byte) (dummy : Nat → Byte) :
    flashBytes { f with data := f.data ++ [b] } dummy = flashBytes f dummy ++ [b] := by simp [flashBytes]

/-- A forwarded PROGRAM's bytes are interpreted. -/
theorem relays_eq_false_of_program {t : Txn} (h : t.cls = some .program) : relays t = false := by
  simp [relays, h, passesOn]

theorem passByte_eq (b : Byte) (running : Addr) (s : State) : passByte b running s = { s with trc := { s.trc with
    txn := { s.trc.txn with
      received := s.trc.txn.received + 1, passed := true
      running := some (BitVec.ofNat 24 (running.toNat / 256 * 256 + (running.toNat + 1) % 256)) }
    flash := s.trc.flash.map fun f => { f with data := f.data ++ [b] } } } := rfl

/-- A data byte of a forwarded PROGRAM, which is not relayed uninterpreted. -/
theorem programDataByte_of_programming {s : State} {start a : Addr} (b : Byte) (h : Programming s start a) :
    exec (.programDataByte b) s = .next (dataByte b start a .forward s) := by
  simp [exec, execProgramDataByte, upstreamHolds, relays_eq_false_of_program h.cls, h.opened, h.decoded, h.cls, h.start_eq,
    h.running_eq, h.forward]

/-- A byte in a transaction that relays its bytes goes out on FDO. -/
theorem programDataByte_of_relays {s : State} (b : Byte) (h : upstreamHolds s = true) (hr : relays s.trc.txn = true) :
    exec (.programDataByte b) s = .next (sendOn b s) := by simp [exec, execProgramDataByte, h, hr]

/-- What a decision point asks of the open transaction, as the statements word it. -/
theorem deciding_of_atCommand {s : State} {c : CmdClass} {code : Byte} (h : AtCommand s c code) :
    deciding s c code = true := by
  obtain ⟨hd, hc | hc⟩ := h.undecided <;>
    simp [deciding, undecided, upstreamHolds, awake, h.awake, h.opened, h.decoded, hd, hc, h.classed]

/-- Only READ and STATUS_READ send dummy bytes (R2). -/
theorem dummiesOf_of_classOf {st : Settings} {code : Byte} {c : CmdClass} (h : classOf st code = c)
    (h1 : c ≠ .read) (h2 : c ≠ .statusRead) (h3 : c ≠ .block) : dummiesOf st code = 0 := by
  subst h
  unfold classOf at h1 h2 h3; unfold dummiesOf
  cases h : entryOfCode st code with
  | none => simp
  | some e => simp only [h] at *; cases h' : e.cls <;> cases h'' : e.addrFlag <;> simp_all [addressed]

end Sys2Proof.Machine
end

