-- ==== Sys2Proof/WellFormed.lean ====
section
/-!
DEFINITION. Which commands the ports can carry at all, whatever the state: the bounds the spec's formats put on operands.
`exec` gives every command its meaning, well formed or not; these checks say what a sender on real ports sends.
-/

namespace Sys2Proof

/-- The body length and cell count of a whole record (R43): at most 248 body bytes in ⌈(8 + length) / 32⌉ cells,
its start on a cell boundary. -/
def Record.wellFormed (r : Record) : Bool :=
  r.body.length ≤ 248 && r.cells == (8 + r.body.length + 31) / 32 && r.start.toNat % 32 == 0

/-- A read-back is 64 bytes, or empty where the write ended before step 5 (R118). -/
def PortReply.wellFormed (p : PortReply) : Bool :=
  p.readBack.length == 64 || p.readBack.length == 0

/-- Whether the kind byte of a whole record is unknown: outside 1 to 9 (R46), and not FFh, which R43 never lets
become a whole record. -/
def unknownKindByte (kind : Byte) : Bool :=
  !(1 ≤ kind.toNat && kind.toNat ≤ 9) && kind != 0xFF#8

/-- The operand bounds of every command. -/
def Instr.wellFormed : Instr → Bool
  | .unknownKind kind r => unknownKindByte kind && r.wellFormed
  | .openRecord r => r.wellFormed
  | .componentRecord r => r.wellFormed
  | .codesRecord r => r.wellFormed
  | .closeRecord r => r.wellFormed
  | .commitRecord r => r.wellFormed
  | .confirmRecord r => r.wellFormed
  | .abandonRecord r => r.wellFormed
  | .clearRecord r => r.wellFormed
  | .rescanRecord r => r.wellFormed
  | .commitEntryFails p => p.wellFormed
  | .attemptEntryFails p => p.wellFormed
  | .confirmationEntryFails p => p.wellFormed
  | .revertEntryFails p => p.wellFormed
  | .profileLoad image => image.length ≤ 2048
  | .journalRead image => image.length ≤ 1024
  | .rebuildReadDone bytes => 1 ≤ bytes.length && bytes.length ≤ 256
  | .rebuildComplete kinds => kinds.length ≤ 128
  | .ucsAsserted => true
  | .read _ _ => true
  | .readGranuleCrossing within => within.all (· < 4096)
  | .reportReadLeavesWindow within => within.all (· < 4096)
  | .statusRead _ => true
  | .writeEnable _ => true
  | .writeDisable _ => true
  | .pass _ => true
  | .program _ _ => true
  | .erase4k _ _ => true
  | .erase64k _ _ => true
  | .eraseAll _ => true
  | .block _ => true
  | .programDataByte _ => true
  | .ucsReleased => true
  | .writeDisableCleanup => true
  | .cleanupComplete => true
  | .statusPoll => true
  | .statusByte _ => true
  | .busyLimitExpiry => true
  | .scanStart => true
  | .scanResume => true
  | .scanWord _ => true
  | .scanComplete _ => true
  | .journalPollTimeout => true
  | .commitEntryLands => true
  | .attemptEntryLands => true
  | .confirmationEntryLands => true
  | .revertEntryLands => true
  | .revertRetry => true
  | .mrstRelease => true
  | .confirmTimerExpiry => true
  | .powerOn => true
  | .rstinAsserted => true
  | .rstinReleased => true
  | .presenceCheck _ => true
  | .presenceTimeout => true
  | .releaseStep => true

end Sys2Proof
end

