-- ==== Sys2Proof/Laws/PerInstr.lean ====
section
/-!
SUPPORT. The family OperandBounds: what well-formedness says of a command's operands in the spec's own figures (R43, R118).
-/

namespace Sys2Proof.Laws.OperandBounds

/-- The record a command carries. -/
def recordIn : Instr → Option Record
  | .ucsAsserted => none
  | .read _ _ => none
  | .readGranuleCrossing _ => none
  | .reportReadLeavesWindow _ => none
  | .statusRead _ => none
  | .writeEnable _ => none
  | .writeDisable _ => none
  | .pass _ => none
  | .program _ _ => none
  | .erase4k _ _ => none
  | .erase64k _ _ => none
  | .eraseAll _ => none
  | .block _ => none
  | .programDataByte _ => none
  | .unknownKind _ r => some r
  | .openRecord r => some r
  | .componentRecord r => some r
  | .codesRecord r => some r
  | .closeRecord r => some r
  | .commitRecord r => some r
  | .confirmRecord r => some r
  | .abandonRecord r => some r
  | .clearRecord r => some r
  | .rescanRecord r => some r
  | .ucsReleased => none
  | .writeDisableCleanup => none
  | .cleanupComplete => none
  | .statusPoll => none
  | .statusByte _ => none
  | .busyLimitExpiry => none
  | .scanStart => none
  | .scanResume => none
  | .scanWord _ => none
  | .scanComplete _ => none
  | .journalPollTimeout => none
  | .commitEntryLands => none
  | .commitEntryFails _ => none
  | .attemptEntryLands => none
  | .attemptEntryFails _ => none
  | .confirmationEntryLands => none
  | .confirmationEntryFails _ => none
  | .revertEntryLands => none
  | .revertEntryFails _ => none
  | .revertRetry => none
  | .mrstRelease => none
  | .confirmTimerExpiry => none
  | .powerOn => none
  | .rstinAsserted => none
  | .rstinReleased => none
  | .presenceCheck _ => none
  | .presenceTimeout => none
  | .profileLoad _ => none
  | .journalRead _ => none
  | .rebuildReadDone _ => none
  | .rebuildComplete _ => none
  | .releaseStep => none

/-- A record within the figures of R43. -/
def Within (r : Record) : Prop :=
  r.body.length ≤ 248 ∧ 1 ≤ r.cells ∧ r.cells ≤ 8 ∧ 32 * (r.cells - 1) < 8 + r.body.length ∧
    8 + r.body.length ≤ 32 * r.cells ∧ r.start.toNat % 32 = 0

/-- A well-formed command's record, if it carries one, lies within the figures of R43. -/
def Statement (i : Instr) : Prop := i.wellFormed = true → ∀ r, recordIn i = some r → Within r

/-- A well-formed record lies within the figures of R43. -/
theorem within_of_wellFormed {r : Record} (h : r.wellFormed = true) : Within r := by
  simp only [Record.wellFormed, Bool.and_eq_true, beq_iff_eq, decide_eq_true_eq] at h
  unfold Within; omega

theorem ucsAsserted : Statement .ucsAsserted := by
  intro _ x hx; cases hx

theorem read (code : Byte) (addr : Option Addr) : Statement (.read code addr) := by
  intro _ x hx; cases hx

theorem readGranuleCrossing (within : Option Nat) : Statement (.readGranuleCrossing within) := by
  intro _ x hx; cases hx

theorem reportReadLeavesWindow (within : Option Nat) :
    Statement (.reportReadLeavesWindow within) := by
  intro _ x hx; cases hx

theorem statusRead (code : Byte) : Statement (.statusRead code) := by
  intro _ x hx; cases hx

theorem writeEnable (code : Byte) : Statement (.writeEnable code) := by
  intro _ x hx; cases hx

theorem writeDisable (code : Byte) : Statement (.writeDisable code) := by
  intro _ x hx; cases hx

theorem pass (code : Byte) : Statement (.pass code) := by
  intro _ x hx; cases hx

theorem program (code : Byte) (addr : Option Addr) : Statement (.program code addr) := by
  intro _ x hx; cases hx

theorem erase4k (code : Byte) (addr : Option Addr) : Statement (.erase4k code addr) := by
  intro _ x hx; cases hx

theorem erase64k (code : Byte) (addr : Option Addr) : Statement (.erase64k code addr) := by
  intro _ x hx; cases hx

theorem eraseAll (code : Byte) : Statement (.eraseAll code) := by
  intro _ x hx; cases hx

theorem block (code : Byte) : Statement (.block code) := by
  intro _ x hx; cases hx

theorem programDataByte (b : Byte) : Statement (.programDataByte b) := by
  intro _ x hx; cases hx

theorem unknownKind (kind : Byte) (r : Record) : Statement (.unknownKind kind r) := by
  intro h x hx; cases hx
  simp only [Instr.wellFormed, Bool.and_eq_true] at h
  exact within_of_wellFormed h.2

theorem openRecord (r : Record) : Statement (.openRecord r) := by
  intro h x hx; cases hx; exact within_of_wellFormed h

theorem componentRecord (r : Record) : Statement (.componentRecord r) := by
  intro h x hx; cases hx; exact within_of_wellFormed h

theorem codesRecord (r : Record) : Statement (.codesRecord r) := by
  intro h x hx; cases hx; exact within_of_wellFormed h

theorem closeRecord (r : Record) : Statement (.closeRecord r) := by
  intro h x hx; cases hx; exact within_of_wellFormed h

theorem commitRecord (r : Record) : Statement (.commitRecord r) := by
  intro h x hx; cases hx; exact within_of_wellFormed h

theorem confirmRecord (r : Record) : Statement (.confirmRecord r) := by
  intro h x hx; cases hx; exact within_of_wellFormed h

theorem abandonRecord (r : Record) : Statement (.abandonRecord r) := by
  intro h x hx; cases hx; exact within_of_wellFormed h

theorem clearRecord (r : Record) : Statement (.clearRecord r) := by
  intro h x hx; cases hx; exact within_of_wellFormed h

theorem rescanRecord (r : Record) : Statement (.rescanRecord r) := by
  intro h x hx; cases hx; exact within_of_wellFormed h

theorem ucsReleased : Statement .ucsReleased := by
  intro _ x hx; cases hx

theorem writeDisableCleanup : Statement .writeDisableCleanup := by
  intro _ x hx; cases hx

theorem cleanupComplete : Statement .cleanupComplete := by
  intro _ x hx; cases hx

theorem statusPoll : Statement .statusPoll := by
  intro _ x hx; cases hx

theorem statusByte (b : Byte) : Statement (.statusByte b) := by
  intro _ x hx; cases hx

theorem busyLimitExpiry : Statement .busyLimitExpiry := by
  intro _ x hx; cases hx

theorem scanStart : Statement .scanStart := by
  intro _ x hx; cases hx

theorem scanResume : Statement .scanResume := by
  intro _ x hx; cases hx

theorem scanWord (b : Byte) : Statement (.scanWord b) := by
  intro _ x hx; cases hx

theorem scanComplete (b : Byte) : Statement (.scanComplete b) := by
  intro _ x hx; cases hx

theorem journalPollTimeout : Statement .journalPollTimeout := by
  intro _ x hx; cases hx

theorem commitEntryLands : Statement .commitEntryLands := by
  intro _ x hx; cases hx

theorem commitEntryFails (reply : PortReply) : Statement (.commitEntryFails reply) := by
  intro _ x hx; cases hx

theorem attemptEntryLands : Statement .attemptEntryLands := by
  intro _ x hx; cases hx

theorem attemptEntryFails (reply : PortReply) : Statement (.attemptEntryFails reply) := by
  intro _ x hx; cases hx

theorem confirmationEntryLands : Statement .confirmationEntryLands := by
  intro _ x hx; cases hx

theorem confirmationEntryFails (reply : PortReply) : Statement (.confirmationEntryFails reply) := by
  intro _ x hx; cases hx

theorem revertEntryLands : Statement .revertEntryLands := by
  intro _ x hx; cases hx

theorem revertEntryFails (reply : PortReply) : Statement (.revertEntryFails reply) := by
  intro _ x hx; cases hx

theorem revertRetry : Statement .revertRetry := by
  intro _ x hx; cases hx

theorem mrstRelease : Statement .mrstRelease := by
  intro _ x hx; cases hx

theorem confirmTimerExpiry : Statement .confirmTimerExpiry := by
  intro _ x hx; cases hx

theorem powerOn : Statement .powerOn := by
  intro _ x hx; cases hx

theorem rstinAsserted : Statement .rstinAsserted := by
  intro _ x hx; cases hx

theorem rstinReleased : Statement .rstinReleased := by
  intro _ x hx; cases hx

theorem presenceCheck (b : Byte) : Statement (.presenceCheck b) := by
  intro _ x hx; cases hx

theorem presenceTimeout : Statement .presenceTimeout := by
  intro _ x hx; cases hx

theorem profileLoad (image : List Byte) : Statement (.profileLoad image) := by
  intro _ x hx; cases hx

theorem journalRead (image : List Byte) : Statement (.journalRead image) := by
  intro _ x hx; cases hx

theorem rebuildReadDone (bytes : List Byte) : Statement (.rebuildReadDone bytes) := by
  intro _ x hx; cases hx

theorem rebuildComplete (kinds : List Byte) : Statement (.rebuildComplete kinds) := by
  intro _ x hx; cases hx

theorem releaseStep : Statement .releaseStep := by
  intro _ x hx; cases hx

end Sys2Proof.Laws.OperandBounds
end

