-- ==== Sys2Proof/Laws/Permissions.lean ====
section
/-!
SUPPORT. The model's permission checks say what the spec's sentences of R20, R26, R28, R38 and R48 say (Safety.lean): a
prover rewrites a Boolean check into its sentence here and never unfolds it.
-/

namespace Sys2Proof.Machine

theorem foreignSlot_eq_false_iff (st : Settings) (g : Nat) :
    foreignSlot st g = false ↔ ∀ n, insideSlot st n g = true → (lookup st g).kind = .slot n := by
  constructor
  · intro h n hn; cases n <;> simp_all [foreignSlot]
  · intro h
    have h0 := h .slot0
    have h1 := h .slot1
    simp [foreignSlot]
    constructor <;> assumption

theorem slotWritable_iff (s : State) (n : Slot) (h : s.sup.part = .run) :
    slotWritable s n = true ↔ SlotOpen s n := by
  simp [slotWritable, SlotOpen, h, stagingSlot]
  cases n <;> cases h1 : s.bsv.image.committed <;> cases h2 : s.stm.setState <;> simp [otherSlot, preparing]

/-- The check of a granule, with the manifest area's own check `b` standing for the sentence `p`. -/
theorem permits_iff (s : State) (g : Nat) (b : Bool) (p : Prop) (h : b = true ↔ p) (h0 : s.sup.part ≠ .starting) :
    permits s g b = true ↔ GranuleWritable s g p := by
  unfold permits GranuleWritable
  cases hp : s.sup.part with
  | starting => simp_all
  | run =>
    simp only [reduceCtorEq, false_and, or_false, true_and, Bool.and_eq_true, Bool.not_eq_true']
    rw [foreignSlot_eq_false_iff]
    apply and_congr_right; intro _
    have := slotWritable_iff s
    cases hk : (lookup s.settings g).kind <;> simp [h, slotWritable_iff, hp]
  | degraded =>
    simp [and_assoc]
    intro _
    constructor
    · rintro ⟨h1, h2⟩ n; cases n <;> assumption
    · intro h; exact ⟨h _, h _⟩

theorem sectorErasable_iff (s : State) (g : Nat) :
    ((sectorOf s.settings g).map (sectorErasable s)).getD false = true ↔ SectorOpen s g := by
  unfold SectorOpen
  cases h : sectorOf s.settings g with
  | none => simp
  | some k => simp [sectorErasable]; cases s.stm.setState <;> simp [settledState]

theorem erasePermits_iff (s : State) (g : Nat) (h0 : s.sup.part ≠ .starting) :
    erasePermits s g = true ↔ GranuleWritable s g (SectorOpen s g) :=
  permits_iff s g _ _ (sectorErasable_iff s g) h0

theorem asksLog_iff (s : State) (a : Addr) : asksLog s (granuleOf a) = true ↔ IsAppendRequest s a := by
  simp [asksLog, IsAppendRequest, and_assoc]
  intro _ hk
  rw [foreignSlot_eq_false_iff]
  simp [hk]

end Sys2Proof.Machine
end

