-- ==== Sys2Proof/Tests/Slice0.lean ====
section
/-!
SUPPORT. The model's own tests: the smoke test of WellFormed, the spec's worked cases (the section stands in each comment),
a few single steps, and for every statement with hypotheses a state and operands that meet them.
-/

open Sys2Proof Sys2Proof.Machine

namespace Sys2Proof.Tests

/-! ### The states the tests start from -/

/-- The state after one command. -/
def after (i : Instr) (s : State) : Option State :=
  match exec i s with
  | .next t => some t
  | .fault _ => none
  | .refused _ => none

/-- RUN with the built-in settings, STABLE on slot 0, no set. -/
def base : State := { State.reset with
  settings := builtInSettings, sup := { part := .run, step := .finished, markDegraded := false, rstin := false }
  bsv := { State.reset.bsv with mrst := none }
  ppc := { presence := .present, profile := .default, invalid := none, pollSince := none } }

/-- The state in DEGRADED. -/
def degraded (s : State) : State := s.setSup { s.sup with part := .degraded }

/-- The state with an upstream transaction just opened. -/
def opened (s : State) : State := s.setTrc { s.trc with txn := { Txn.closed with isOpen := true } }

/-- The state with a transaction of a class decided. -/
def decided (c : CmdClass) (a : Option Addr) (d : Disposition) (s : State) : State :=
  s.setTrc { s.trc with txn := { Txn.closed with
    isOpen := true, cls := some c, start := a, running := a, disposition := some d } }

/-- Set 5 for slot 1, eight components, 4 KiB chunks. -/
def cs5 : CurrentSet :=
  { seq := 5, target := .slot1, chunkExp := 12, attempts := 7, compCount := 8, rebuildClass := none }

/-- Its component 0: 5000 bytes in two chunks. -/
def comp0 : Component :=
  { ident := 515, version := 2, offset := 0, length := 5000, code := 0x00050003, chunkCount := 2, coded := 1
    checked := false }

/-- Its chunks. -/
def chunk (i : Nat) (e : Option Word32) (st : ChunkState) : Chunk :=
  { ref := { comp := 0, chunk := i }, expected := e, state := st, written := true, mismatches := 15 }

/-- The state with set 5 in a set state and its two chunks in chunk states. -/
def prep (x : SetState) (c0 c1 : ChunkState) : State := { base with
  stm := { setState := x, set := some cs5, comps := (Vector.replicate 8 none).set 0 (some comp0), accepted := 2
           digest := some { a := 1, b := 5 }, reason := none, mismatchTotal := 65535, logHigh := 5 }
  ckt := { chunks := [chunk 0 (some 0x00050003) c0, chunk 1 (some 0x00050003) c1], queue := [] } }

/-- The same with no code for chunk 1. -/
def halfCoded : State := { prep .receiving .dirty .uncoded with
  ckt := { chunks := [chunk 0 (some 0x00050003) .dirty, chunk 1 none .uncoded], queue := [⟨0, 0⟩] } }

/-- The trial of set 5 in slot 1, one attempt left. -/
def trialImage : JournalEntry :=
  { JournalEntry.default with generation := 21, boot := .trial, trial := .slot1, trialSeq := 5, attempts := 1 }

/-- RUN on trial. -/
def trialRun : State := let s := prep .trial .good .good; s.setBsv { s.bsv with image := trialImage }

/-- A record. -/
def record (seq : Word16) (body : List Byte) : Record :=
  { cells := 1, seq := seq, check := 0, body := body, start := 0x400000 }

/-- The state with a journal write in flight. -/
def inFlight (kind : EntryKind) (e : JournalEntry) (s : State) : State :=
  s.setBsv { s.bsv with inFlight := some { kind := kind, entry := e, since := 0 } }

/-- The state with a scan of chunk 0 that holds the port, at a word offset. -/
def scanning (offset : Nat) (held : Option Byte) (s : State) : State :=
  (s.setScan (some { ref := ⟨0, 0⟩, offset := offset, lanes := ⟨65520, 65520⟩, held := held })).setTrc
    { s.trc with flash := some { owner := .scan, code := 3, addr := none, dummies := 0 } }

/-- The state at a step of a start-up. -/
def atStep (x : StartStep) (s : State) : State :=
  s.setSup { part := .starting, step := x, markDegraded := false, rstin := false }

/-- A forwarded read that stands at an address. -/
def reading (a : Addr) : State :=
  let s := decided .read (some a) .forward base
  s.setTrc { s.trc with txn := { s.trc.txn with
    run := some { flashAddr := a.toNat, translated := false, bootSlot := .slot0 } } }

/-- The rebuild with its cursor at an offset. -/
def rebuilding (o : Nat) : State := (atStep .rebuild base).setLgp { base.lgp with cursor := o }

/-- A hand-off is possible in RUN with no transaction open. -/
theorem handed {s : State} (h : s.sup.part = .run) (h' : s.trc.txn.isOpen = false) : Handed s := ⟨h, .inl h'⟩

/-- A decision point in RUN. -/
theorem at_base {code : Byte} {c : CmdClass} (h : classOf base.settings code = c) : AtCommand (opened base) c code :=
  ⟨by decide, rfl, rfl, ⟨rfl, .inl rfl⟩, h⟩

/-! ### WellFormed: each check refuses an ill-formed command -/

theorem test_wellFormed_body : Instr.wellFormed (.openRecord { record 5 (List.replicate 249 0) with cells := 9 }) = false := by
  decide +kernel
theorem test_wellFormed_cells : Instr.wellFormed (.closeRecord { record 5 (List.replicate 8 0) with cells := 2 }) = false := by
  decide
theorem test_wellFormed_start : Instr.wellFormed (.clearRecord { record 5 [1] with start := 0x400001 }) = false := by decide
theorem test_wellFormed_kind : Instr.wellFormed (.unknownKind 9 (record 5 [])) = false ∧
    Instr.wellFormed (.unknownKind 0xFF (record 5 [])) = false ∧ Instr.wellFormed (.unknownKind 10 (record 5 [])) = true := by
  decide
theorem test_wellFormed_reply : Instr.wellFormed (.commitEntryFails ⟨0, true, [1]⟩) = false := by decide
theorem test_wellFormed_profile : Instr.wellFormed (.profileLoad (List.replicate 2049 0)) = false := by decide +kernel
theorem test_wellFormed_journal : Instr.wellFormed (.journalRead (List.replicate 1025 0)) = false := by decide +kernel
theorem test_wellFormed_rebuild : Instr.wellFormed (.rebuildReadDone []) = false ∧
    Instr.wellFormed (.rebuildReadDone (List.replicate 257 0)) = false ∧
    Instr.wellFormed (.rebuildComplete (List.replicate 129 0)) = false := by decide +kernel
theorem test_wellFormed_crossing : Instr.wellFormed (.readGranuleCrossing (some 4096)) = false ∧
    Instr.wellFormed (.reportReadLeavesWindow (some 4096)) = false := by decide

/-! ### Worked cases of the spec -/

/-- Section 6.3: the chunk code of a short last chunk. -/
theorem test_chunk_code :
    code32 (laneFold (chunkSeed 515 2) (wordsOf [0x10, 0x20, 0xFF, 0x00, 0x7E])) = 0x63C7209F#32 := by decide
/-- Section 6.3: the component code. -/
theorem test_component_code : componentCode 515 [0x63C7209F#32, 0x00050003#32] = 0xAFF2846F#32 := by decide
/-- Section 6.3: the record check of a CLEAR, and the check of the record with its body byte changed. -/
theorem test_record_check : recordCheck 8 [8, 1, 7, 0, 1, 0, 1] = 0x0374#16 ∧
    recordCheck 8 [8, 1, 7, 0, 1, 0, 3] = 0x0378#16 := by decide
/-- Section 6.3: a sum at the top of the range. -/
theorem test_top_sum :
    code32 (laneFold (chunkSeed 0 0) (wordsOf [0xEF, 0xFF, 0xFF, 0xFF])) = 0x000C000D#32 := by decide
/-- R30: the boot view with boot slots 1 and 0. -/
theorem test_translation : translate builtInSettings .slot1 0x812340 = 0x212340 ∧
    translate builtInSettings .slot0 0x812340 = 0x012340 := by decide
/-- Section 11.1: the commit entry of set 5 raises the generation, keeps the sequence and leaves one attempt of two. -/
theorem test_commit_entry :
    let e := commitEntry { JournalEntry.default with generation := 20, committedSeq := 4, trialSeq := 4 } 5 .slot1 2
    e.generation = 21 ∧ e.trialSeq = 5 ∧ e.attempts = 1 ∧ e.committedSeq = 4 := by decide
/-- Section 11.3: the revert of set 6 keeps the committed slot and records the sequence. -/
theorem test_revert_entry : (revertEntry trialImage).lastReverted = 5 ∧ (revertEntry trialImage).boot = .stable ∧
    (revertEntry trialImage).committed = .slot0 ∧ (revertEntry trialImage).generation = 22 := by decide
/-- Section 11.4: a read at 9FFFF8h on trial in slot 1 reaches 3FFFF8h, and the crossing fills it. -/
theorem test_read_across_view :
    let s := (after (.read 3 (some 0x9FFFF8)) (opened trialRun)).getD base
    s.trc.flash.bind FlashTxn.addr = some 0x3FFFF8#24 ∧
      (after .readGranuleCrossing s).map (fun t => (t.trc.flash.isNone, t.rpu.events.map Event.key)) =
        some (true, [(.filledRead, 0xA00000#32), (.outOfRange, 0xA00000#32)]) := by decide +kernel

/-- Section 10.5: an event entry's bytes. -/
theorem test_event_entry : reportEvent { kind := .suppressedWrite, count := 4, seq := 12, detail := 0x05010000 } =
    [0x01, 0x01, 0x04, 0xFF, 0x0C, 0x00, 0xFF, 0xFF, 0x00, 0x00, 0x01, 0x05, 0xFF, 0xFF, 0xFF, 0xFF] := by decide
/-- R118: the page write is 67 bytes, and position 15 lies at 0BC0h (section 7.2). -/
theorem test_entry_write : ((entryWrite 15 trialImage).map profileBytes).map List.length = [1, 1, 67, 1, 3] ∧
    positionAddr 15 = 0x0BC0#16 := ⟨by decide +kernel, by decide⟩

/-! ### Single steps -/

/-- R31, R35: a read of an 8 MiB flash advances its run and its address with each byte, and at the top of the address space
it wraps. -/
theorem test_read_advances :
    (after (.readGranuleCrossing (some 5)) (reading 0x1FFFF0)).map (fun t => (t.trc.txn.running, t.trc.txn.run.map
      Run.flashAddr)) = some (some 0x1FFFF5#24, some 0x1FFFF5) ∧
    (after .readGranuleCrossing (decided .read (some 0xFFFFF0) .fill base)).map (·.trc.txn.running) =
      some (some 0x000000#24) := by decide
/-- R3: with code 0Bh UDO carries FFh for the command byte, three address bytes and one dummy byte. -/
theorem test_dummy_phase : (List.range 6).map (fun n => udoAt
    ((after (.read 0x0B (some 0x1000)) (opened base)).getD base) 0x0B n 0x5A) =
    [0xFF, 0xFF, 0xFF, 0xFF, 0xFF, 0x5A] := by decide +kernel
/-- R54: the kind bytes of sector 2 with the log ended at its start; the last byte is not blank. -/
theorem test_sector_read :
    (after (.rebuildReadDone (List.replicate 127 0xFF ++ [0x01])) ((rebuilding 8192).setLgp
      { (rebuilding 8192).lgp with
        logEnded := true, appendPoint := 8192, clean := Vector.replicate 4 true })).map
      (fun t => (t.lgp.cursor, t.lgp.clean.toList)) = some (12288, [true, true, false, true]) := by decide +kernel

/-- R105: the address bytes of a scan read go out most significant first, the dummy bytes after them. -/
theorem test_scan_read_bytes : flashBytes { owner := .scan, code := 0x0B, addr := some 0x202004, dummies := 1 }
    (fun _ => 0x5A) = [0x0B, 0x20, 0x20, 0x04, 0x5A] := by decide
theorem test_reset_is_starting : st0High State.reset = false ∧ State.reset.sup.part = .starting := by decide
theorem test_wrap_in_page : nextInPage 0x4000FF = 0x400000#24 := by decide
theorem test_event_codes : eventCode .profileDefault = 0x18 ∧ attention .noStore = true ∧ attention .filledRead = false := by
  decide
theorem test_clear_both_flags :
    (after (.clearRecord (record 0 [3])) (base.setRpu { base.rpu with overflow := true })).map
      (fun t => (t.rpu.overflow, t.bsv.restart)) = some (false, .none) := by decide
theorem test_commit_lands_asserts_mrst :
    (after .commitEntryLands (inFlight .commit trialImage (prep .committing .good .good))).map
      (fun t => (t.bsv.mrst, t.stm.setState, bootSlot t)) = some (some 0, .trial, .slot1) := by decide
theorem test_blank_journal_entry : entryOf (List.replicate 64 0xFF) = none := by decide +kernel
theorem test_written_entry_reads_back : entryOf (entryBytes trialImage) = some trialImage := by decide +kernel
theorem test_blank_profile_is_default : judgeImage (fit 2048 []) = .default := by decide +kernel
theorem test_built_in_regions_are_legal : regionsOk (builtInRegions.toList.filterMap id) 23 = true := by decide
theorem test_no_write_to_boot_slot :
    (after (.program 2 (some 0x000000)) (opened (prep .receiving .dirty .dirty))).map (·.trc.txn.disposition) =
      some (some .suppress) := by decide +kernel
theorem test_erase_of_target_slot :
    (after .ucsReleased (decided .erase4k (some 0x200000) .forward (prep .ready .good .good))).map
      (fun t => (t.stm.setState, t.ckt.chunks.map Chunk.state)) = some (.closed, [.erased, .good]) := by decide +kernel

/-! ### Witnesses: the hypotheses of each statement, clause by clause, met together

A conjunct gives one clause's hypotheses at concrete values, at the ends of ranges where a clause has one. -/

theorem test_hyp_StepRunsTheFrontCommand :
    (base.setPending [.powerOn]).pending = .powerOn :: [] ∧ base.pending = [] := by decide

theorem test_hyp_LineResetKeepsEventsAndCause :
    base.sup.rstin = false ∧ (base.setSup { base.sup with rstin := true }).sup.rstin = true := by decide

theorem test_hyp_LaneStepRule : Lanes.inRange ⟨65520, 65520⟩ ∧ Lanes.inRange ⟨0, 0⟩ := by
  unfold Lanes.inRange; decide

theorem test_hyp_BytesPairIntoWords : ([0xFF, 0xFF] : List Byte).length % 2 = 0 ∧ Lanes.inRange ⟨65520, 65520⟩ := by
  unfold Lanes.inRange; decide

theorem test_hyp_LookupFindsLowestPosition :
    (winner Settings.start 2047 = none ∧ 2047 < flashGranules Settings.start) ∧
    (winner Settings.start 2048 = none ∧ flashGranules Settings.start ≤ 2048) ∧
    (∃ r, winner { builtInSettings with flashExp := 20 } 0x404 = some r ∧ r.kind = .openArea ∧
      flashGranules { builtInSettings with flashExp := 20 } ≤ 0x404) ∧
    (∃ r, winner builtInSettings 0xFFF = some r ∧ r.kind ≠ .openArea ∧ r.kind ≠ .locked) ∧
    (∃ r, winner builtInSettings 0x7FF = some r ∧ r.kind = .openArea ∧ 0x7FF < flashGranules builtInSettings) :=
  ⟨by decide, by decide, ⟨_, rfl, by decide⟩, ⟨_, rfl, by decide⟩, ⟨_, rfl, by decide⟩⟩

theorem test_hyp_NoWriteForwardedIntoBootSlot :
    (opened base).trc.txn.disposition ≠ some .forward ∧
    (after (.program 0x02 (some 0x404000)) (opened base)).map (·.trc.txn.disposition) = some (some .forward) ∧
    (after (.program 0x02 (some 0x200000)) (opened (prep .ready .good .good))).map (·.trc.txn.disposition) =
      some (some .forward) ∧
    (after (.erase4k 0x20 (some 0x404000)) (opened base)).map (·.trc.txn.disposition) = some (some .forward) ∧
    (after (.erase64k 0xD8 (some 0x410000)) (opened base)).map (·.trc.txn.disposition) = some (some .forward) := by
  decide +kernel

/-- A transaction opened in STARTING. -/
def ignored : State := base.setTrc { base.trc with txn := { Txn.closed with isOpen := true, inStarting := true } }

theorem test_hyp_SelectTakesThePort :
    (base.trc.txn.isOpen = false ∧ base.sup.part ≠ .starting) ∧
    (State.reset.trc.txn.isOpen = false ∧ State.reset.sup.part = .starting) ∧
    (ignored.trc.txn.isOpen = true ∧ ignored.trc.txn.inStarting = true) := by decide

theorem test_hyp_PlainClassesAreForwarded :
    AtCommand (opened base) .statusRead 0x05 ∧ AtCommand (opened base) .writeEnable 0x06 ∧
    AtCommand (opened base) .writeDisable 0x04 ∧ AtCommand (opened base) .pass 0x9F ∧
    AtCommand (opened base) .read 0x03 ∧ AtCommand (opened base) .program 0x02 ∧
    AtCommand (opened base) .erase4k 0x20 ∧ AtCommand (opened base) .erase64k 0xD8 ∧
    AtCommand (enterClass .read (opened base)) .read 0x03 :=
  ⟨at_base (by decide), at_base (by decide), at_base (by decide), at_base (by decide), at_base (by decide),
    at_base (by decide), at_base (by decide), at_base (by decide), ⟨by decide, rfl, rfl, ⟨rfl, .inr rfl⟩, by decide⟩⟩

theorem test_hyp_BlockIsNotForwarded :
    AtCommand (opened base) .block 0x01 ∧ AtCommand (opened base) .block 0xAA ∧
    builtInSettings.commands = builtInCommands ∧ builtInSettings.policy = .block ∧
    (∀ e, some e ∈ builtInSettings.commands.toList → e.code ≠ 0xAA#8) := by
  refine ⟨at_base (by decide), at_base (by decide), rfl, rfl, fun e he => ?_⟩
  have h : ∀ x ∈ builtInSettings.commands.toList, x.all (·.code != 0xAA#8) = true := by decide
  simpa using h _ he

/-- The settings with an uncovered granule below the flash size. -/
def big : State := base.setSettings { builtInSettings with flashExp := 24 }

theorem test_hyp_ReadsThatReachTheFlash :
    AtCommand (opened base) .read 0x03 ∧ AtCommand (opened base) .read 0x0B ∧
    (lookup builtInSettings (granuleOf 0x1FFFFF)).kind = .slot .slot0 ∧
    (lookup builtInSettings (granuleOf 0x200000)).kind = .slot .slot1 ∧
    (lookup builtInSettings (granuleOf 0x403FFF)).kind = .manifest ∧
    (lookup builtInSettings (granuleOf 0x404000)).kind = .openArea ∧
    (lookup big.settings (granuleOf 0xA00000)).kind = .locked ∧
    (lookup builtInSettings (granuleOf 0x9FFFFF)).kind = .bootView :=
  ⟨at_base (by decide), at_base (by decide), by decide, by decide, by decide, by decide, by decide, by decide⟩

theorem test_hyp_ReadsAnsweredOrFilled :
    AtCommand (opened base) .read 0x03 ∧ (lookup builtInSettings (granuleOf 0xFFF000)).kind = .report ∧
    (lookup builtInSettings (granuleOf 0xA00000)).kind = .hidden ∧
    (lookup builtInSettings (granuleOf 0xFFEFFF)).kind = .hidden :=
  ⟨at_base (by decide), by decide, by decide, by decide⟩

theorem test_hyp_CrossingContinuesOrFills :
    ((reading 0x1FFFFF).trc.txn.isOpen = true ∧ (reading 0x1FFFFF).trc.txn.inStarting = false ∧
      (reading 0x1FFFFF).trc.txn.running = some 0x1FFFFF#24 ∧
      (0x200000#24).toNat = ((0x1FFFFF#24).toNat / 4096 + 1) % 4096 * 4096 ∧
      mappedTo builtInSettings .slot0 0x200000 = some 0x200000) ∧
    (mappedTo builtInSettings .slot0 0x800000 ≠ some (0x800000 % 2 ^ 23 + 1)) ∧
    (0x000000#24).toNat = ((0xFFFFFF#24).toNat / 4096 + 1) % 4096 * 4096 ∧
    (decided .read (some 0xFFFFFF) .answer base).trc.txn.disposition = some .answer ∧
    (4095 < 4096 - (0x200000#24).toNat % 4096 ∧ 0 < 4096 - (0x1FFFFF#24).toNat % 4096 ∧
      (reading 0x200000).trc.txn.run ≠ none ∧ (decided .read (some 0) .fill base).trc.txn.disposition = some .fill ∧
      (decided .read (some 0) .fill base).trc.txn.run = none) := by decide

/-! #### Writes -/

theorem writable_open : GranuleWritable (opened base) 0x404 (SectorOpen (opened base) 0x404) :=
  .inl ⟨rfl, by intro n; cases n <;> decide, .inl (by decide)⟩

theorem writable_slot : GranuleWritable (opened (prep .ready .good .good)) 0x3FF False :=
  .inl ⟨rfl, by intro n; cases n <;> decide,
    .inr (.inl ⟨.slot1, by decide, rfl, by decide, ⟨cs5, rfl, rfl⟩, .inr (.inr rfl)⟩)⟩

theorem writable_sector : GranuleWritable (opened base) 0x400 (SectorOpen (opened base) 0x400) :=
  .inl ⟨rfl, by intro n; cases n <;> decide, .inr (.inr ⟨by decide, 0, by decide, rfl, .inl rfl, .inl rfl⟩)⟩

theorem not_writable_locked (s : State) (g : Nat) (p : Prop) (h : (lookup s.settings g).kind = .bootView) :
    ¬ GranuleWritable s g p := by
  rintro (⟨_, _, h' | ⟨n, h', _⟩ | ⟨h', _⟩⟩ | ⟨_, h', _⟩) <;> rw [h] at h' <;> cases h'

theorem not_writable_hidden (s : State) (g : Nat) (p : Prop) (h : (lookup s.settings g).kind = .hidden) :
    ¬ GranuleWritable s g p := by
  rintro (⟨_, _, h' | ⟨n, h', _⟩ | ⟨h', _⟩⟩ | ⟨_, h', _⟩) <;> rw [h] at h' <;> cases h'

theorem test_hyp_ErasesAreForwardedOrSuppressed :
    (AtCommand (opened base) .erase4k 0x20 ∧ ∀ g ∈ [granuleOf 0x404FFF],
      GranuleWritable (opened base) g (SectorOpen (opened base) g)) ∧
    (AtCommand (opened base) .erase4k 0x20 ∧ ∀ g ∈ [granuleOf 0x400000],
      GranuleWritable (opened base) g (SectorOpen (opened base) g)) ∧
    (AtCommand (opened base) .erase64k 0xD8 ∧
      ∃ g ∈ (List.range 16).map (fun k => (0x800000#24).toNat / 65536 * 16 + k),
        ¬ GranuleWritable (opened base) g (SectorOpen (opened base) g)) ∧
    (∀ p, ¬ GranuleWritable (opened base) (granuleOf 0xA00FFF) p) ∧
    (lookup builtInSettings (granuleOf 0xA00FFF)).outOfRange = true ∧
    (blockGranules 0xA0FFFF).find? (fun g => (lookup builtInSettings g).outOfRange) = some 0xA00 ∧
    AtCommand (opened base) .eraseAll 0xC7 := by
  refine ⟨⟨at_base (by decide), ?_⟩, ⟨at_base (by decide), ?_⟩, ⟨at_base (by decide), 0x800, by decide, ?_⟩,
    fun p => not_writable_hidden _ _ p (by decide), by decide, by decide, at_base (by decide)⟩
  · intro g hg; cases List.mem_singleton.1 hg; exact writable_open
  · intro g hg; cases List.mem_singleton.1 hg; exact writable_sector
  · exact not_writable_locked _ _ _ (by decide)

theorem test_hyp_ProgramsAreForwardedOrSuppressed :
    (AtCommand (opened (prep .ready .good .good)) .program 0x02 ∧
      ¬ IsAppendRequest (opened (prep .ready .good .good)) 0x3FFFFF ∧
      GranuleWritable (opened (prep .ready .good .good)) (granuleOf 0x3FFFFF) False) ∧
    (AtCommand (opened base) .program 0x02 ∧ ¬ IsAppendRequest (opened base) 0x9FFFFF ∧
      ¬ GranuleWritable (opened base) (granuleOf 0x9FFFFF) False) :=
  ⟨⟨⟨by decide, rfl, rfl, ⟨rfl, .inl rfl⟩, by decide⟩, fun h => absurd h.2.1 (by decide), writable_slot⟩,
    at_base (by decide), fun h => absurd h.2.1 (by decide), not_writable_locked _ _ _ (by decide)⟩

/-- An append at the append point `o`, the sector flags as given. -/
def logAt (o : Nat) (clean : Bool) (s : State) : State :=
  s.setLgp { s.lgp with appendPoint := o, clean := Vector.replicate 4 clean }

theorem appends (s : State) (a : Addr) (h : s.settings = builtInSettings) (h' : s.sup.part = .run)
    (hg : (lookup builtInSettings (granuleOf a)).kind = .manifest) (h0 : insideSlot builtInSettings .slot0 (granuleOf a) = false)
    (h1 : insideSlot builtInSettings .slot1 (granuleOf a) = false) : IsAppendRequest s a :=
  ⟨h', by rw [h]; exact hg, by intro n; rw [h]; cases n <;> assumption⟩

theorem test_hyp_AppendRequestsAreRuled :
    (IsAppendRequest (opened (logAt 16384 true base)) 0x403FFF ∧
      (opened (logAt 16384 true base)).lgp.appendPoint = 16384 ∧ preparing .idle = false) ∧
    (IsAppendRequest (opened (logAt 16384 true (prep .ready .good .good))) 0x400000 ∧ preparing .ready = true) ∧
    (IsAppendRequest (opened (logAt 32 true base)) 0x400021 ∧
      (0x400021#24).toNat ≠ areaBase builtInSettings + 32) ∧
    (IsAppendRequest (opened (logAt 16383 false base)) 0x403FFF ∧
      (0x403FFF#24).toNat = areaBase builtInSettings + 16383 ∧ (3 : Fin 4).val = 16383 / 4096 ∧
      (logAt 16383 false base).lgp.clean[(3 : Fin 4)] = false) ∧
    (IsAppendRequest (opened (logAt 0 true base)) 0x400000 ∧ (0x400000#24).toNat = areaBase builtInSettings + 0 ∧
      (0 : Fin 4).val = 0 / 4096 ∧ (logAt 0 true base).lgp.clean[(0 : Fin 4)] = true) :=
  ⟨⟨appends _ _ rfl rfl (by decide) (by decide) (by decide), by decide⟩,
    ⟨appends _ _ rfl rfl (by decide) (by decide) (by decide), by decide⟩,
    ⟨appends _ _ rfl rfl (by decide) (by decide) (by decide), by decide⟩,
    ⟨appends _ _ rfl rfl (by decide) (by decide) (by decide), by decide⟩,
    ⟨appends _ _ rfl rfl (by decide) (by decide) (by decide), by decide⟩⟩

/-- The built-in settings with the policy PASS. -/
def passPolicy : Settings := { builtInSettings with policy := .pass }

/-- An append open at the area's start with a number of bytes received. -/
def appending (start running : Addr) (received : Nat) (cut : Option Nat) (s : State) : State :=
  s.setTrc { s.trc with txn := { Txn.closed with
    isOpen := true, cls := some .program, start := some start, running := some running, disposition := some .forward
    received := received, cut := cut } }

theorem programming (start running : Addr) (n : Nat) (cut : Option Nat) (s : State) :
    Programming (appending start running n cut s) start running := ⟨rfl, rfl, rfl, rfl, rfl, rfl⟩

theorem test_hyp_DataBytesPassOrAreDiscarded :
    (Programming (appending 0x404000 0x4040FF 255 none base) 0x404000 0x4040FF ∧
      (appending 0x404000 0x4040FF 255 none base).trc.txn.cut = none) ∧
    (Programming (appending 0x400000 0x4000FE 254 (some 0x400100) base) 0x400000 0x4000FE ∧
      (0x400000#24).toNat + 254 < 0x400100 ∧ (0x4000FE#24).toNat - areaBase builtInSettings ≠ base.lgp.appendPoint) ∧
    ((decided .program (some 0) .suppress base).trc.txn.disposition = some .suppress ∧
      (decided .program (some 0) .suppress base).trc.txn.start = some 0 ∧
      (decided .program (some 0) .suppress base).trc.txn.running = some 0 ∧
      (decided .program (some 0) .suppress base).trc.txn.cls = some .program ∧
      (decided .program (some 0) .suppress base).trc.txn.isOpen = true ∧
      (decided .program (some 0) .suppress base).trc.txn.inStarting = false) ∧
    (Programming (appending 0x400000 0x400000 256 (some 0x400100) base) 0x400000 0x400000 ∧
      0x400100 ≤ (0x400000#24).toNat + 256) ∧
    (∃ t, exec (.pass 0x9F) (opened { base with settings := passPolicy }) = .next t ∧ t.trc.txn.isOpen = true ∧
      t.trc.txn.inStarting = false ∧ t.trc.txn.cls = some .pass ∧ t.trc.txn.disposition = some .forward ∧
      t.trc.flash = some { owner := .upstream, code := 0x9F, addr := none, dummies := 0 }) :=
  ⟨⟨programming .., by decide⟩, ⟨programming .., by decide⟩, by decide, ⟨programming .., by decide⟩, ⟨_, rfl, by decide⟩⟩

/-- R5, R7: bytes after a PASS's command and after an erase's address go out on FDO, those after a suppressed erase do not. -/
theorem test_bytes_passed_on :
    ((after (.pass 0x9F) (opened { base with settings := passPolicy })).bind (after (.programDataByte 0x5A))).map
      (fun t => t.trc.flash.map (flashBytes · fun _ => 0)) = some (some [0x9F, 0x5A]) ∧
    ((after (.erase4k 0x20 (some 0x404000)) (opened base)).bind (after (.programDataByte 0x5A))).map
      (fun t => t.trc.flash.map (flashBytes · fun _ => 0)) = some (some [0x20, 0x40, 0x40, 0x00, 0x5A]) ∧
    ((after (.erase4k 0x20 (some 0x000000)) (opened base)).bind (after (.programDataByte 0x5A))).map
      (fun t => t.trc.flash) = some none := by decide +kernel

/-- A CLEAR of section 6.3, less its last byte: its header, then its body. -/
def clearHeader : List Byte := [8, 1, 7, 0, 1, 0, 0x74, 0x03]

theorem test_hyp_AppendedBytesBuildRecords :
    Programming (appending 0x400000 0x400000 0 (some 0x400100) base) 0x400000 0x400000 ∧
    (appending 0x400000 0x400000 0 (some 0x400100) base).sup.part = .run ∧
    (0x400000#24).toNat + 0 < 0x400100 ∧ (0x400000#24).toNat - areaBase builtInSettings = base.lgp.appendPoint ∧
    (clearHeader.length = 8 ∧ ([1] : List Byte).length = (field16 clearHeader 4).toNat ∧
      byteAt clearHeader 0 ≠ 0xFF#8 ∧ recordCheck 8 (clearHeader.take 6 ++ [1]) = field16 clearHeader 6 ∧
      recordCheck 8 (clearHeader.take 6 ++ [3]) ≠ field16 clearHeader 6) ∧
    (([] ++ [8] : List Byte).length < 8 ∧ base.lgp.phase = .awaitingHeader) ∧
    (judgeHeader 0 (clearHeader.set 1 9) = .torn 1 ∧ judgeHeader 16352 clearHeader = .valid 1 ∧
      0 < (field16 clearHeader 4).toNat) ∧
    (clearHeader ++ [1]).length < 8 + (field16 (clearHeader.set 4 2) 4).toNat :=
  ⟨programming .., by decide⟩

theorem test_hyp_HeadersAreJudgedInOrder :
    byteAt [0xFF, 0, 0, 0, 0, 0, 0, 0] 0 = 0xFF#8 ∧ ¬ (1 ≤ (9#8).toNat ∧ (9#8).toNat ≤ 8) ∧
    (248 < 249 ∨ 32 * 8 < 8 + 249) ∧ (8 + 248 ≤ 32 * 8 ∧ 32 * (8 - 1) < 8 + 248) ∧ 32 * (1 - 1) < 8 + 0 := by decide

theorem test_hyp_ReleaseClosesTheTransaction :
    ((decided .read (some 0) .fill base).trc.txn.isOpen = true ∧
      (decided .read (some 0) .fill base).trc.txn.inStarting = false ∧
      (decided .read (some 0) .fill base).trc.txn.disposition ≠ some .forward) ∧
    (decided .statusRead none .forward base).trc.txn.cls = some .statusRead ∧
    ((decided .writeEnable none .forward base).trc.txn.disposition = some .forward ∧
      (decided .writeEnable none .forward base).trc.txn.cls = some .writeEnable) ∧
    ((decided .program (some 0) .forward base).trc.txn.start ≠ none ∧
      (decided .program (some 0) .forward base).trc.txn.passed = false) := by decide

theorem test_hyp_ReleaseOfAWriteStartsTheBusyPeriod :
    (decided .erase4k (some 0x404000) .forward base).trc.txn.isOpen = true ∧
    (decided .erase4k (some 0x404000) .forward base).trc.txn.inStarting = false ∧
    (decided .erase4k (some 0x404000) .forward base).trc.txn.disposition = some .forward ∧
    (decided .erase4k (some 0x404000) .forward base).trc.txn.start = some 0x404000#24 ∧
    (decided .erase4k (some 0x404000) .forward base).trc.txn.cls = some .erase4k ∧
    (decided .erase64k (some 0x410000) .forward base).trc.txn.cls = some .erase64k ∧
    (decided .program (some 0x404000) .forward base).trc.txn.cls = some .program ∧
    ((after (.programDataByte 0) (decided .program (some 0x404000) .forward base)).map (·.trc.txn.passed)) =
      some true := by decide

/-- A region table in which OPEN outranks the MANIFEST entry. -/
def overlaid : State := base.setSettings { builtInSettings with
  regions := builtInRegions.set 0 (region .openArea 0x400 0x403) }

theorem test_hyp_LogNoticesMoveTheFlags :
    (sectorOf builtInSettings 0x400 = some 0 ∧ (lookup builtInSettings 0x400).kind = .manifest) ∧
    (sectorOf overlaid.settings (0x403F00 / 4096) = some 3 ∧
      (lookup overlaid.settings (0x403F00 / 4096)).kind ≠ .manifest) ∧
    sectorOf builtInSettings (0x404000 / 4096) = none := by decide

/-! #### The Chunk Tracker -/

theorem test_hyp_ProgramNoticeMakesDirty :
    ((prep .ready .good .good).ckt.chunks.map Chunk.ref).Nodup ∧ liveState .rejected = false ∧
    takesGranule (prep .ready .good .good) (0x404000 / 4096) = false ∧ liveState .ready = true ∧
    takesGranule (prep .ready .good .good) (0x201F00 / 4096) = true := by decide

/-- The chunks that an erase of granule 200h or 3FFh touches. -/
def touchedBy (s : State) (gs : List Nat) (c : Chunk) : Bool :=
  gs.any fun g => takesGranule s g && touches s c.ref (g * 4096) 4096

theorem test_hyp_EraseNoticeMakesErased :
    ((prep .ready .good .good).ckt.chunks.map Chunk.ref).Nodup ∧
    (∀ c, touchedBy (prep .ready .good .good) [0x200, 0x3FF] c = true ↔ ∃ g ∈ [0x200, 0x3FF],
      takesGranule (prep .ready .good .good) g = true ∧
      touches (prep .ready .good .good) c.ref (g * 4096) 4096 = true) ∧
    liveState .idle = false ∧ liveState .ready = true :=
  ⟨by decide, by intro c; simp [touchedBy], by decide, by decide⟩

theorem test_hyp_RescanMakesDirty :
    Handed (prep .ready .good .good) ∧ Handed base ∧ (record 5 [0]).body = [0#8] ∧ (record 5 []).body.length ≠ 1 ∧
    base.stm.set = none ∧ (prep .ready .good .good).stm.set = some cs5 ∧ (record 6 [0]).seq ≠ cs5.seq ∧
    (record 5 [0]).seq = cs5.seq ∧ rescannable .committing = false ∧ rescannable .ready = true ∧
    componentAt (prep .ready .good .good) (7#8).toNat = none ∧
    componentAt (prep .ready .good .good) (0#8).toNat ≠ none ∧
    ((prep .ready .good .good).ckt.chunks.map Chunk.ref).Nodup ∧
    (∀ c : Chunk, (fun c : Chunk => decide (c.ref.comp = 0)) c = true ↔ (0#8 = 0xFF#8 ∨ c.ref.comp = (0#8).toNat)) :=
  ⟨handed rfl rfl, handed rfl rfl, by decide, by decide, by decide, by decide, by decide, by decide, by decide, by decide,
    by decide, by decide, by decide, by intro c; simp⟩

/-! #### Records -/

/-- The journal with a write in flight. -/
def busyBase : State := inFlight .revert trialImage base

theorem test_hyp_OpenChecksInOrder :
    Handed base ∧ Handed busyBase ∧ Handed trialRun ∧ (record 1 [1, 1, 12]).body.length ≠ 4 ∧
    ¬ (trialRun.bsv.image.boot = .stable ∧ settledState trialRun.stm.setState = true) ∧
    (base.bsv.image.boot = .stable ∧ settledState base.stm.setState = true) ∧ busyBase.bsv.inFlight ≠ none ∧
    (¬ (2#8).toNat ≤ 1 ∧ ¬ (9#8).toNat ≤ 8 ∧ ¬ 12 ≤ (11#8).toNat ∧ ¬ (8#8).toNat ≤ 7) ∧
    ((1#8).toNat ≤ 1 ∧ (8#8).toNat ≤ 8 ∧ 12 ≤ (12#8).toNat ∧ (14#8).toNat ≤ 14 ∧ (7#8).toNat ≤ 7) ∧
    (0#8).toNat = slotCode base.bsv.image.committed ∧ (1#8).toNat ≠ slotCode base.bsv.image.committed ∧
    ¬ base.bsv.image.committedSeq < 0#16 :=
  ⟨handed rfl rfl, handed rfl rfl, handed rfl rfl, by decide⟩

theorem test_hyp_OpenReplacesTheSet :
    Handed (prep .rejected .good .bad) ∧ (record 6 [1, 8, 14, 7]).body = [1#8, 8#8, 14#8, 7#8] ∧
    (1#8).toNat = slotCode .slot1 ∧ Slot.slot1 ≠ base.bsv.image.committed ∧ 1 ≤ (8#8).toNat ∧ (8#8).toNat ≤ 8 ∧
    12 ≤ (14#8).toNat ∧ (14#8).toNat ≤ 14 ∧ 1 ≤ (7#8).toNat ∧ (7#8).toNat ≤ 7 ∧
    base.bsv.image.boot = .stable ∧ settledState .rejected = true ∧ base.bsv.inFlight = none ∧
    base.bsv.image.committedSeq < 6#16 ∧ base.bsv.image.trialSeq < 6#16 ∧ base.bsv.image.lastReverted < 6#16 ∧
    (prep .rejected .good .bad).stm.logHigh < 6#16 := ⟨handed rfl rfl, by decide⟩

theorem passes {x y : ChunkState} (body : List Byte) : PassesGate (prep .receiving x y) (record 5 body) cs5 :=
  ⟨handed rfl rfl, rfl, rfl, rfl⟩

theorem test_hyp_StrayRecordsAreRefused :
    Handed base ∧ ((0#8).toNat = 0 ∨ 9 < (0#8).toNat) ∧ 9 < (10#8).toNat ∧ 9 < (254#8).toNat ∧ 254#8 ≠ 0xFF#8 ∧
    (base.stm.setState ≠ .receiving) ∧ (prep .receiving .good .good).stm.set = some cs5 ∧
    (prep .receiving .good .good).stm.setState = .receiving ∧ (record 6 []).seq ≠ cs5.seq := ⟨handed rfl rfl, by decide⟩

/-- A COMPONENT body: index 7, identifier 516, version 0, offset 2000h, length 1, code 0. -/
def body7 : List Byte := [7, 0] ++ bytes16 516 ++ bytes32 0 ++ bytes32 0x2000 ++ bytes32 1 ++ bytes32 0

theorem test_hyp_ComponentIsDeclared :
    PassesGate (prep .receiving .good .good) (record 5 body7) cs5 ∧ body7.length = 20 ∧ 7 = (byteAt body7 0).toNat ∧
    7 < cs5.compCount ∧ componentAt (prep .receiving .good .good) 7 = none ∧ field16 body7 2 ≠ 0xFFFF#16 ∧
    1 ≤ (field32 body7 12).toNat ∧ (field32 body7 8).toNat % 2 ^ cs5.chunkExp = 0 ∧
    (field32 body7 8).toNat + 1 ≤ slotSize builtInSettings .slot1 ∧
    (∀ d ∈ declared (prep .receiving .good .good), 0x2000 + 1 * 2 ^ cs5.chunkExp ≤ d.offset ∨
      d.offset + d.chunkCount * 2 ^ cs5.chunkExp ≤ 0x2000) ∧
    totalChunks (prep .receiving .good .good) + 1 ≤ 1024 ∧
    (recognized cs5 = true ∨ ∀ p ∈ base.bsv.image.pairs.toList, p.ident ≠ 0xFFFF#16 → p.ident = 516#16 →
      p.version ≤ 0#32) ∧ halvesBelow (field32 body7 16) = true := ⟨passes _, by decide⟩

theorem test_hyp_FailedChecksRejectTheSet :
    (PassesGate (prep .receiving .good .good) (record 5 [0]) cs5 ∧
      componentVerdict cs5 (record 5 [0]) (prep .receiving .good .good) = .error .malformed) ∧
    (PassesGate (prep .receiving .good .good) (record 5 ([0, 1, 0, 0] ++ bytes32 0x00050004)) cs5 ∧
      codesVerdict cs5 (record 5 ([0, 1, 0, 0] ++ bytes32 0x00050004)) (prep .receiving .good .good) =
        .error .codeConflict) ∧
    (PassesGate (prep .receiving .good .good) (record 5 ([3, 0, 0, 0] ++ bytes32 0)) cs5 ∧
      closeVerdict cs5 (record 5 ([3, 0, 0, 0] ++ bytes32 0)) (prep .receiving .good .good) = .error .closeCount) ∧
    PassesGate (prep .receiving .good .good) (record 5 []) cs5 :=
  ⟨⟨passes _, rfl⟩, ⟨passes _, rfl⟩, ⟨passes _, rfl⟩, passes _⟩

/-- A COMPONENT body of index 7 with the given identifier, offset, length and code. -/
def bodyOf (ident : Word16) (offset len code : Word32) : List Byte :=
  [7, 0] ++ bytes16 ident ++ bytes32 0 ++ bytes32 offset ++ bytes32 len ++ bytes32 code

/-- The image with a committed pair of identifier 516 above version 0. -/
def pairImage : JournalEntry :=
  { JournalEntry.default with pairs := JournalEntry.default.pairs.set 0 { ident := 516, version := 1 } }

theorem test_hyp_RejectionReasonsInOrder :
    (([] : List Byte).length ≠ 20 ∧ ([] : List Byte).length ≠ 8) ∧
    (¬ field16 (bodyOf 0xFFFF 0x2000 1 0) 2 ≠ 0xFFFF#16 ∧ (bodyOf 516 0x2000 1 0).length = 20) ∧
    (¬ (field32 (bodyOf 516 0x2001 1 0) 8).toNat % 2 ^ cs5.chunkExp = 0) ∧
    (recognized cs5 = false ∧ rollsBack pairImage (componentFields cs5 (record 5 (bodyOf 516 0x2000 1 0))) = true) ∧
    (rollsBack JournalEntry.default (componentFields cs5 (record 5 (bodyOf 516 0x2000 1 0))) = false ∧
      halvesBelow (field32 (bodyOf 516 0x2000 1 65521) 16) = false) ∧
    (([2, 0, 0, 0] ++ bytes32 0xFFF10000 : List Byte).length = 8 ∧
      halvesBelow (field32 ([2, 0, 0, 0] ++ bytes32 0xFFF10000) 4) = false) ∧
    (field16 ([2, 0, 0, 0] ++ bytes32 0x00050001) 0).toNat = (prep .receiving .good .good).stm.accepted ∧
    (prep .receiving .good .good).stm.digest.map code32 = some (field32 ([2, 0, 0, 0] ++ bytes32 0x00050001) 4) ∧
    (prep .receiving .good .good).stm.digest.map code32 ≠ some 0#32 ∧
    (∃ k < cs5.compCount, componentAt (prep .receiving .good .good) k = none) ∧
    (¬ (1 ≤ 0 ∧ 0 ≤ 61)) ∧ (1 ≤ 61 ∧ (List.replicate (4 + 4 * 61) (0 : Byte)).length = 4 + 4 * 61) ∧
    cs5.compCount ≤ (8#8).toNat ∧ comp0.chunkCount < 2 + 1 ∧ 1 + 1 ≤ comp0.chunkCount ∧
    (∃ i < 1, ∃ held, expectedOf (prep .receiving .good .good) { comp := 0, chunk := 1 + i } = some held ∧
      held ≠ field32 ([0, 1, 1, 0] ++ bytes32 0x00050004) (4 + 4 * i)) :=
  ⟨by decide, by decide, by decide, by decide, by decide, by decide, by decide, by decide, by decide, ⟨7, by decide⟩,
    by decide, by decide +kernel, by decide, by decide, by decide, ⟨0, by decide, _, rfl, by decide⟩⟩

/-- A CODES body for chunk 1. -/
def codes1 : List Byte := [0, 1, 1, 0] ++ bytes32 0x00070006

/-- What it gives to a chunk. -/
def codeFor1 (x : ChunkRef) : Option Word32 :=
  if x.comp = 0 ∧ 1 ≤ x.chunk ∧ x.chunk < 1 + 1 then some (field32 codes1 (4 + 4 * (x.chunk - 1))) else none

theorem test_hyp_CodesAreStored :
    PassesGate halfCoded (record 5 codes1) cs5 ∧ 0 = (byteAt codes1 0).toNat ∧ 1 = (byteAt codes1 1).toNat ∧
    1 = (field16 codes1 2).toNat ∧ codes1.length = 4 + 4 * 1 ∧ 0 < cs5.compCount ∧ componentAt halfCoded 0 = some comp0 ∧
    1 + 1 ≤ comp0.chunkCount ∧ (∀ i < 1, halvesBelow (field32 codes1 (4 + 4 * i)) = true) ∧
    expectedOf halfCoded { comp := 0, chunk := 1 + 0 } = none ∧
    halfCoded.ckt.chunks.map Chunk.ref = (halfCoded.ckt.chunks.filter fun x => x.ref.comp < 0).map Chunk.ref ++
      ((List.range comp0.chunkCount).map fun i => { comp := 0, chunk := i }) ++
      (halfCoded.ckt.chunks.filter fun x => 0 < x.ref.comp).map Chunk.ref ∧
    (halfCoded.ckt.chunks.map Chunk.ref).Nodup ∧
    (halfCoded.ckt.chunks.filter fun x => x.expected == none && (codeFor1 x.ref).isSome).length = 1 ∧
    (comp0.coded + 1 = comp0.chunkCount ∧ comp0.checked = false) ∧
    componentCode comp0.ident [0x00050003, 0x00070006] ≠ comp0.code :=
  ⟨⟨handed rfl rfl, rfl, rfl, rfl⟩, by decide⟩

/-- Set 5 with a single component, so that its declaration is complete. -/
def whole (c0 c1 : ChunkState) : State :=
  let s := prep .receiving c0 c1
  s.setStm { s.stm with set := some { cs5 with compCount := 1 } }

theorem test_hyp_CloseEndsTheDeclaration :
    PassesGate (whole .good .good) (record 5 ([2, 0, 0, 0] ++ bytes32 0x00050001)) { cs5 with compCount := 1 } ∧
    ([2, 0, 0, 0] ++ bytes32 0x00050001 : List Byte).length = 8 ∧ halvesBelow 0x00050001 = true ∧
    (field16 ([2, 0, 0, 0] ++ bytes32 0x00050001) 0).toNat = (whole .good .good).stm.accepted ∧
    field32 ([2, 0, 0, 0] ++ bytes32 0x00050001) 4 = BitVec.ofNat 32 (5 * 65536 + 1) ∧
    (∀ k < 1, componentAt (whole .good .good) k ≠ none) ∧
    (∀ c ∈ (whole .good .good).ckt.chunks, c.expected ≠ none) ∧
    (∀ c ∈ (whole .good .good).ckt.chunks, c.state = .good) ∧
    (∃ c ∈ (whole .bad .good).ckt.chunks, c.state ≠ .good) :=
  ⟨⟨handed rfl rfl, rfl, rfl, rfl⟩, by decide, by decide, by decide, by decide, by decide, by decide, by decide,
    ⟨_, List.mem_cons_self, by decide⟩⟩

/-- The state with the journal's last generation but one. -/
def spent (s : State) : State := s.setBsv { s.bsv with image := { s.bsv.image with generation := 0xFFFFFFFE } }

/-- The trial with a demand held. -/
def demanded : State := trialRun.setBsv { trialRun.bsv with demand := some .damaged }

theorem test_hyp_CommitIsCheckedAndBegun :
    (Handed base ∧ Handed trialRun ∧ Handed (prep .ready .good .good) ∧ Handed (inFlight .revert trialImage (prep .ready .good .good)) ∧
      Handed (spent (prep .ready .good .good))) ∧
    ((record 5 [0]).body ≠ [] ∧ (record 5 []).body = [] ∧ base.stm.set = none ∧
      (prep .ready .good .good).stm.set = some cs5 ∧ (record 6 []).seq ≠ cs5.seq ∧ (record 5 []).seq = cs5.seq ∧
      trialRun.bsv.image.boot ≠ .stable ∧ (prep .closed .good .bad).bsv.image.boot = .stable ∧
      (prep .closed .good .bad).stm.setState ≠ .ready ∧ (prep .ready .good .good).stm.setState = .ready ∧
      Presence.absent ≠ .present ∧ (prep .ready .good .good).ppc.presence = .present ∧
      (inFlight .revert trialImage (prep .ready .good .good)).bsv.inFlight ≠ none ∧
      (prep .ready .good .good).bsv.inFlight = none ∧
      (prep .ready .good .good).bsv.image.generation ≠ 0xFFFFFFFE#32 ∧
      (spent (prep .ready .good .good)).bsv.image.generation = 0xFFFFFFFE#32) :=
  ⟨⟨handed rfl rfl, handed rfl rfl, handed rfl rfl, handed rfl rfl, handed rfl rfl⟩, by decide⟩

theorem test_hyp_ConfirmIsCheckedAndBegun :
    (Handed trialRun ∧ Handed base ∧ Handed (inFlight .confirmation trialImage trialRun) ∧ Handed (spent trialRun) ∧
      Handed (spent demanded)) ∧
    ((record 5 [0]).body ≠ [] ∧ base.bsv.image.boot ≠ .trial ∧ trialRun.bsv.image.boot = .trial ∧
      (record 6 []).seq ≠ trialRun.bsv.image.trialSeq ∧ (record 5 []).seq = trialRun.bsv.image.trialSeq ∧
      (trialRun.setStm Stm.start).stm.set = none) ∧
    (∃ cs, trialRun.stm.set = some cs ∧ cs.seq = trialRun.bsv.image.trialSeq ∧ trialRun.stm.setState = .trial) ∧
    ((inFlight .confirmation trialImage trialRun).bsv.inFlight ≠ none ∧ trialRun.bsv.inFlight = none ∧
      trialRun.bsv.image.generation ≠ 0xFFFFFFFE#32) ∧
    ((spent trialRun).bsv.image.generation = 0xFFFFFFFE#32 ∧ (spent trialRun).bsv.demand = none ∧
      (spent demanded).bsv.demand ≠ none ∧ (spent demanded).bsv.inFlight = none) :=
  ⟨⟨handed rfl rfl, handed rfl rfl, handed rfl rfl, handed rfl rfl, handed rfl rfl⟩, by decide, ⟨cs5, by decide⟩,
    by decide, by decide⟩

theorem test_hyp_AbandonRevertsOrDiscards :
    (Handed trialRun ∧ Handed demanded ∧ Handed base ∧ Handed (prep .ready .good .good) ∧
      Handed (prep .committing .good .good)) ∧
    ((record 5 [0]).body ≠ [] ∧ (trialRun.bsv.image.boot = .trial ∧ (record 5 []).seq = trialRun.bsv.image.trialSeq) ∧
      demanded.bsv.demand ≠ none ∧ trialRun.bsv.demand = none ∧
      (inFlight .attempt trialImage trialRun).bsv.inFlight ≠ none ∧ trialRun.bsv.inFlight = none ∧
      trialRun.bsv.image.generation ≠ 0xFFFFFFFE#32 ∧ (spent trialRun).bsv.image.generation = 0xFFFFFFFE#32 ∧
      (spent trialRun).bsv.image.trialSeq = 5 ∧ base.bsv.image.boot ≠ .trial ∧ base.stm.set = none ∧
      (prep .ready .good .good).stm.set = some cs5 ∧ (record 6 []).seq ≠ cs5.seq ∧ (record 5 []).seq = cs5.seq ∧
      preparing .committing = false ∧ preparing .ready = true) :=
  ⟨⟨handed rfl rfl, handed rfl rfl, handed rfl rfl, handed rfl rfl, handed rfl rfl⟩, by decide⟩

theorem test_hyp_ClearActsOnItsFlags :
    Handed base ∧ (record 5 []).body.length ≠ 1 ∧ (record 5 [0xFF]).body = [0xFF#8] := ⟨handed rfl rfl, by decide⟩

/-! #### Events and the flash port -/

/-- An event. -/
def event (n : Nat) : Event := { kind := .filledRead, count := n, seq := 0, detail := 0 }

theorem test_hyp_PostingCoalescesAppendsOrDrops :
    [event 1, event 255] = [event 1] ++ [event 255] ∧ (event 255).kind = .filledRead ∧ (event 255).detail = 0 ∧
    (List.replicate 31 (event 1)).length < 32 ∧ 32 ≤ (List.replicate 32 (event 1)).length ∧
    (∀ older newest, (List.replicate 32 (event 1)) = older ++ [newest] →
      ¬ (newest.kind = .outOfRange ∧ newest.detail = 0)) ∧
    (⟨7, 1023⟩ : ChunkRef).comp < 8 ∧ (⟨7, 1023⟩ : ChunkRef).chunk < 1024 ∧ 65535 < 65536 := by
  refine ⟨by decide, by decide, by decide, by decide, by decide, fun older newest h => ?_, by decide⟩
  have : newest ∈ List.replicate 32 (event 1) := by rw [h]; simp
  rw [List.eq_of_mem_replicate this]; decide

theorem test_hyp_EntriesStayUntilCleared :
    let s := base.setRpu { base.rpu with events := [{ event 1 with kind := .noStore }] }
    (∃ t, exec .rstinAsserted s = .next t) ∧ (∃ t, exec (.statusRead 5) (opened s) = .next t ∧ t.sup.part ≠ .starting) ∧
      alertAsserted s = true := ⟨⟨_, rfl⟩, ⟨_, rfl, by decide⟩, by decide⟩

/-- Cleanup pending is set. -/
def dirtyLatch : State := base.setTrc { base.trc with cleanup := true }

/-- FLASH_BUSY is set since 0. -/
def busyFlash : State := base.setTrc { base.trc with busy := some { since := 0, kind := .erase, addr := 0x404000 } }

theorem test_hyp_CleanupRunsAndClears :
    (dirtyLatch.sup.part ≠ .starting ∧ dirtyLatch.trc.txn.isOpen = false ∧ dirtyLatch.trc.flash = none ∧
      dirtyLatch.trc.cleanup = true) ∧ (∃ e, firstEntry dirtyLatch.settings .writeDisable = some e ∧ e.code = 0x04) ∧
    (after .writeDisableCleanup dirtyLatch).map (fun t => t.trc.flash.map FlashTxn.owner) = some (some .cleanup) :=
  ⟨by decide, ⟨_, rfl, by decide⟩, by decide⟩

/-- The rebuild with FLASH_BUSY and STUCK set, at the turn of a poll or of a read. -/
def pollTurn (owed : Bool) : State :=
  let s := atStep .rebuild busyFlash
  (s.setTrc { s.trc with stuck := true }).setLgp { s.lgp with pollOwed := owed }

theorem test_hyp_StatusBytesTrackTheFlash :
    (busyFlash.sup.part ≠ .starting ∧ busyFlash.trc.txn.isOpen = false ∧ busyFlash.trc.flash = none ∧
      busyFlash.trc.cleanup = false ∧ busyFlash.trc.busy ≠ none) ∧
    (∃ e, firstEntry busyFlash.settings .statusRead = some e ∧ e.code = 0x05) ∧
    ((atStep .rebuild busyFlash).trc.txn.isOpen = false ∧ (atStep .rebuild busyFlash).trc.stuck = false ∧
      (after .statusPoll (atStep .rebuild busyFlash)).map (fun t => t.trc.flash.map FlashTxn.owner) =
        some (some .poll)) ∧
    ((pollTurn true).trc.stuck = true ∧ (after .statusPoll (pollTurn true)).map (fun t => t.trc.flash.map
      FlashTxn.owner) = some (some .poll)) ∧
    ((pollTurn false).trc.busy ≠ none ∧ (pollTurn false).sup.step = .rebuild ∧ (pollTurn false).lgp.pollOwed = false) ∧
    (after .statusPoll busyFlash).map (fun t => t.trc.flash.map FlashTxn.owner) = some (some .poll) ∧
    (after (.statusRead 5) (opened base)).map (fun t => (t.trc.flash.map FlashTxn.owner, t.trc.txn.cls,
      t.trc.txn.disposition)) = some (some .upstream, some .statusRead, some .forward) :=
  ⟨by decide, ⟨_, rfl, by decide⟩, by decide, by decide, by decide, by decide, by decide⟩

theorem test_hyp_BusyLimitSetsStuck :
    busyFlash.trc.busy = some { since := 0, kind := .erase, addr := 0x404000 } ∧ busyFlash.trc.stuck = false := by decide

/-! #### Scans -/

/-- A live set with its first chunk queued. -/
def queued : State := { prep .receiving .dirty .good with
  ckt := { chunks := (prep .receiving .dirty .good).ckt.chunks, queue := [⟨0, 0⟩] } }

theorem test_hyp_ScansStartResumeAndFold :
    (served queued = true ∧ queued.trc.txn.isOpen = false ∧ queued.trc.flash = none ∧ queued.trc.cleanup = false ∧
      queued.trc.busy = none ∧ queued.stm.set = some cs5 ∧ componentAt queued 0 = some comp0 ∧ queued.scan = none ∧
      queued.ckt.queue = ⟨0, 0⟩ :: []) ∧
    (∃ e, firstEntry queued.settings .read = some e ∧ e.code = 0x03) ∧
    ((queued.setScan (scanning 2047 none queued).scan).scan.map ScanContext.ref = some ⟨0, 0⟩) ∧
    ((scanning 0 none queued).trc.flash.map FlashTxn.owner = some .scan ∧ 2 * 0 + 0 + 1 ≠ 4096) ∧
    ((scanning 0 (some 1) queued).scan.bind ScanContext.held = some 1 ∧ 2 * 2046 + 1 + 1 ≠ 4096) ∧
    0x3FFFFF < 2 ^ 24 ∧ (2 * 2047 + 1 + 1 = if 0 + 1 = comp0.chunkCount then comp0.length - (comp0.chunkCount - 1) * 2 ^ cs5.chunkExp
      else 2 ^ cs5.chunkExp) :=
  ⟨by decide, ⟨_, rfl, by decide⟩, by decide, by decide, by decide, by decide, by decide⟩

/-- At the last byte of chunk 0, in a set state. -/
def lastWord (x : SetState) (c1 : ChunkState) : State := scanning 2047 (some 0) (prep x .scanning c1)

theorem test_hyp_ScanOutcomesAreApplied :
    ((lastWord .closed .good).trc.flash.map FlashTxn.owner = some .scan ∧ (lastWord .closed .good).stm.set = some cs5 ∧
      componentAt (lastWord .closed .good) 0 = some comp0 ∧
      chunk 0 (some 0x00050003) .scanning ∈ (lastWord .closed .good).ckt.chunks ∧
      (chunk 0 (some 0x00050003) .scanning).ref = ⟨0, 0⟩ ∧
      ((lastWord .closed .good).ckt.chunks.map Chunk.ref).Nodup ∧ 2 * 2047 + 1 + 1 = 2 ^ cs5.chunkExp) ∧
    (preparing .closed = true ∧ preparing .receiving = true) ∧
    (∀ y ∈ (lastWord .closed .good).ckt.chunks, y.ref ≠ ⟨0, 0⟩ → y.state = .good) ∧
    (¬ ∀ y ∈ (lastWord .closed .bad).ckt.chunks, y.ref ≠ ⟨0, 0⟩ → y.state = .good) ∧
    (some (0x00050003 : Word32) ≠ some (code32 (laneStep ⟨65520, 65520⟩ 0)) ∧
      (chunk 0 (some 0x00050003) .scanning).written = true) ∧
    some (code32 (laneStep ⟨65520, 65520⟩ 0)) = some (code32 (laneStep ⟨65520, 65520⟩ ((0#8).toNat + 256 * (0#8).toNat))) ∧
    (¬ ((lastWord .closed .bad).settings.threshold ≠ 0)) ∧ ((255 : Nat) ≠ 0 ∧ 255 ≤ min 65535 (65535 + 1)) ∧
    ((lastWord .trial .good).stm.setState = .trial ∧ (lastWord .trial .good).bsv.demand = none ∧
      (lastWord .trial .good).bsv.inFlight = none ∧
      (lastWord .trial .good).bsv.image.generation ≠ 0xFFFFFFFE#32 ∧
      (spent (lastWord .trial .good)).bsv.image.generation = 0xFFFFFFFE#32) ∧
    demanded.bsv.demand ≠ none ∧ (lastWord .installed .good).stm.setState = .installed ∧
    (lastWord .committing .good).stm.setState = .committing := by decide

/-! #### The journal -/

theorem flying (kind : EntryKind) (s : State) (h : s.bsv.retryWait = none) :
    InFlight (inFlight kind trialImage s) kind trialImage := ⟨h, 0, rfl⟩

theorem test_hyp_JournalEntriesLand :
    (InFlight (inFlight .commit trialImage (prep .committing .good .good)) .commit trialImage ∧
      InFlight (inFlight .confirmation trialImage trialRun) .confirmation trialImage ∧
      InFlight (inFlight .attempt trialImage (atStep .accounting base)) .attempt trialImage ∧
      InFlight (inFlight .attempt trialImage trialRun) .attempt trialImage ∧
      InFlight (inFlight .attempt trialImage demanded) .attempt trialImage ∧
      InFlight (inFlight .revert trialImage demanded) .revert trialImage ∧
      (∃ e : JournalEntry, e.generation = 0xFFFFFFFE#32 ∧ InFlight (inFlight .attempt e demanded) .attempt e)) ∧
    ((atStep .accounting base).sup.part = .starting ∧ trialRun.sup.part ≠ .starting ∧ trialRun.bsv.demand = none ∧
      demanded.bsv.demand = some .damaged ∧ trialImage.generation ≠ 0xFFFFFFFE#32) :=
  ⟨⟨flying _ _ rfl, flying _ _ rfl, flying _ _ rfl, flying _ _ rfl, flying _ _ rfl, flying _ _ rfl,
    ⟨{ trialImage with generation := 0xFFFFFFFE }, rfl, rfl, 0, rfl⟩⟩, by decide⟩

theorem test_hyp_JournalWritesFail :
    ((inFlight .commit trialImage (prep .committing .good .good)).bsv.retryWait = none ∧
      (inFlight .commit trialImage (prep .committing .good .good)).bsv.inFlight =
        some { kind := .commit, entry := trialImage, since := 0 } ∧
      (prep .committing .good .good).stm.setState = .committing) ∧
    (FailsAt (entryBytes trialImage) ⟨0xFF, true, entryBytes trialImage⟩ .statusRead ∧
      FailsAt (entryBytes trialImage) ⟨0, false, []⟩ .completionPoll ∧
      FailsAt (entryBytes trialImage) ⟨0, true, List.replicate 64 0xFF⟩ .readBack) ∧
    (trialRun.bsv.image.generation ≠ 0xFFFFFFFE#32 ∧ trialRun.bsv.demand = none ∧
      demanded.bsv.demand = some .damaged ∧ (spent demanded).bsv.image.generation = 0xFFFFFFFE#32 ∧
      (spent demanded).bsv.demand = some .damaged ∧ trialRun.sup.part ≠ .starting ∧
      (atStep .accounting trialRun).sup.part = .starting) := by
  unfold FailsAt; decide +kernel

/-- A failed revert waits for its retry since 0. -/
def waiting : State := trialRun.setBsv { trialRun.bsv with retryWait := some 0 }

/-- MRST is asserted since 0 with a release event occurred. -/
def releasing : State := trialRun.setBsv { trialRun.bsv with mrst := some 0, releaseDue := some .attemptLanded }

/-- The confirm timer runs. -/
def timed (k : Nat) : State :=
  trialRun.setBsv { trialRun.bsv with confirmTimer := some 8000, image := { trialImage with attempts := k } }

theorem test_hyp_RetriesReleasesAndExpiries :
    (waiting.bsv.retryWait = some 0 ∧ waiting.bsv.image.generation ≠ 0xFFFFFFFE#32 ∧
      (spent waiting).bsv.image.generation = 0xFFFFFFFE#32 ∧ waiting.sup.part ≠ .starting ∧
      (atStep .accounting (spent waiting)).bsv.retryWait = some 0) ∧
    (releasing.bsv.mrst = some 0 ∧ releasing.bsv.releaseDue = some .attemptLanded) ∧
    ((timed 6).bsv.confirmTimer = some 8000 ∧ (timed 6).bsv.image.attempts ≠ 0 ∧ (timed 0).bsv.image.attempts = 0 ∧
      (timed 0).bsv.image.generation ≠ 0xFFFFFFFE#32 ∧ (spent (timed 6)).bsv.image.generation = 0xFFFFFFFE#32 ∧
      (spent (timed 6)).bsv.confirmTimer = some 8000) := by decide

/-! #### The start-up -/

/-- An image with the built-in tables' minimum: no entry, its check in place. -/
def emptyImage : List Byte := [0xA6, 1, 0, 0] ++ bytes16 (storeCheck [0xA6, 1, 0, 0])

/-- The bytes of a profile image with the given entries. -/
def imageOf (entries : List Byte) : List Byte :=
  let head := [0xA6, 1] ++ bytes16 (BitVec.ofNat 16 entries.length) ++ entries
  head ++ bytes16 (storeCheck head)

/-- The entries for the commands that R139 asks for, slots 0 and 1, and a manifest area. -/
def goodEntries : List Byte :=
  [0x20] ++ bytes32 0x00010103 ++ [0x21] ++ bytes32 0x00000205 ++ [0x22] ++ bytes32 0x00000404 ++
  [0x10] ++ bytes32 0x0100F000 ++ [0x11] ++ bytes32 0x1101F010 ++ [0x12] ++ bytes32 0x03023020

theorem test_hyp_PresenceAndProfile :
    (State.reset.sup.step = .presence ∧ (0xFF#8).getLsbD 0 = true ∧ (0xFE#8).getLsbD 0 = false ∧
      (0x01#8).getLsbD 0 = true ∧ 0x01#8 ≠ 0xFF#8) ∧
    ((after (.presenceCheck 1) State.reset).map fun t => t.ppc.pollSince) = some (some 0) ∧
    (atStep .profileLoad base).sup.step = .profileLoad ∧ State.reset.ppc.presence ≠ .present ∧
    base.ppc.presence = .present ∧
    (byteAt (fit 2048 []) 0 ≠ 0xA6#8 ∧ byteAt (fit 2048 [0xA6, 2]) 1 ≠ 0x01#8 ∧
      2042 < (field16 (fit 2048 [0xA6, 1, 0xFB, 0x07]) 2).toNat ∧
      (field16 (fit 2048 [0xA6, 1, 0xFA, 0x07]) 2).toNat ≤ 2042 ∧
      storeCheck ((fit 2048 [0xA6, 1, 0, 0]).take 4) ≠ field16 (fit 2048 [0xA6, 1, 0, 0]) 4) ∧
    (judgeImage (fit 2048 (imageOf ([0x10] ++ bytes32 0x08000000))) = .invalid .entry 0x10 ∧
      judgeImage (fit 2048 emptyImage) = .invalid .commands 0 ∧
      judgeImage (fit 2048 (imageOf (goodEntries.take 15))) = .invalid .regions 0 ∧
      judgeImage (fit 2048 (imageOf goodEntries)) =
        .loaded (settingsOf (itemsOf goodEntries))) ∧
    (InFlight (inFlight .commit trialImage base) .commit trialImage ∧ base.sup.step = .finished ∧
      (atStep .accounting base).sup.step = .accounting ∧ base.bsv.next < 16 ∧ 15 < 16) :=
  ⟨by decide, by decide, by decide, by decide, by decide, by decide +kernel, by decide +kernel,
    ⟨flying _ _ rfl, by decide⟩⟩

theorem test_hyp_TakenSettingsAreClamped :
    itemValue (itemsOf ([0x01] ++ bytes32 25)) 0x01 = some 25#32 ∧ itemValue [] 0x40 = none ∧
    itemValue (itemsOf ([0x40] ++ bytes32 0xFFFF)) 0x40 = some 0xFFFF#32 ∧
    itemValue (itemsOf ([0x45] ++ bytes32 9)) 0x45 = some 9#32 ∧ 8 < (9#32).toNat ∧
    itemValue (itemsOf ([0x46] ++ bytes32 8)) 0x46 = some 8#32 ∧
    (itemValue (itemsOf ([0x1B] ++ bytes32 0x08000000)) 0x1B = some 0x08000000#32 ∧
      regionOfItem 0x08000000 = none) ∧
    (itemValue (itemsOf ([0x37] ++ bytes32 0x00000B00)) 0x37 = some 0x00000B00#32 ∧
      commandOfItem 0x00000B00 = none) ∧
    ((0x11FFF000#32).toNat / 2 ^ 24 % 16 = 1 ∧ (0x21FFF000#32).toNat / 2 ^ 28 = 2 ∧
      (0xFF000000#32).toNat / 2 ^ 24 % 16 = 15) ∧
    ((0x02010103#32).toNat / 2 ^ 8 % 256 = 1 ∧ (0x02010103#32).toNat / 2 ^ 24 ≤ 2 ∧
      2 < (0x03010103#32).toNat / 2 ^ 24) := by decide

/-- A journal area that holds an entry at a position, twice where `again` names another. -/
def area (p again : Nat) (e : JournalEntry) : List Byte :=
  (List.range 16).flatMap fun q => if q = p ∨ q = again then entryBytes e else List.replicate 64 0xFF

theorem test_hyp_JournalReadFindsTheWinner :
    (atStep .journalRead base).sup.step = .journalRead ∧
    (∀ p < 16, entryOf (((fit 1024 []).drop (64 * p)).take 64) = none) ∧
    (entryOf (((fit 1024 (area 3 15 trialImage)).drop (64 * 3)).take 64) = some trialImage ∧
      (∀ q < 16, q = 3 ∨ (entryOf (((fit 1024 (area 3 15 trialImage)).drop (64 * q)).take 64)).all
        (fun d => d.generation < trialImage.generation || (d.generation == trialImage.generation && 3 < q)) = true)) ∧
    (trialImage.boot = .trial ∧ base.ppc.profile ≠ .invalid ∧ trialImage.generation ≠ 0xFFFFFFFE#32 ∧
      trialImage.attempts ≠ 0 ∧ JournalEntry.default.boot = .stable) ∧
    (entryOf (entryBytes { trialImage with generation := 0xFFFFFFFE }) =
      some { trialImage with generation := 0xFFFFFFFE } ∧ (atStep .journalRead base).sup.part = .starting) := by
  decide +kernel

theorem test_hyp_JournalEntriesReadBack :
    (trialImage.generation ≠ 0xFFFFFFFF#32 ∧ trialImage.attempts ≤ 6 ∧ trialImage.trial ≠ trialImage.committed) ∧
    (entryBytes trialImage).length = 64 ∧ entryOf (entryBytes trialImage) = some trialImage := by decide +kernel

/-- The rebuild with the log ended at the last cell of sector 2. -/
def ended : State := (rebuilding 12256).setLgp { base.lgp with cursor := 12256, logEnded := true, appendPoint := 12256 }

/-- The state with set 5 of a rebuild class. -/
def classed (c : RebuildClass) (s : State) : State := s.setStm { s.stm with set := some { cs5 with rebuildClass := some c } }

theorem test_hyp_RebuildJudgesRecords :
    ((rebuilding 16352).sup.step = .rebuild ∧ (rebuilding 16352).trc.flash = none ∧
      (rebuilding 16352).trc.busy = none ∧ (rebuilding 16352).lgp.logEnded = false) ∧
    ((clearHeader ++ [1]).take 8 = clearHeader ∧ clearHeader.length = 8 ∧
      [1] = ((clearHeader ++ [1]).drop 8).take (field16 clearHeader 4).toNat) ∧
    (byteAt (List.replicate 8 0xFF) 0 = 0xFF#8 ∧ byteAt clearHeader 0 ≠ 0xFF#8) ∧
    (judgeHeader 16352 (clearHeader.set 4 249) = .torn 1 ∧ judgeHeader 16352 clearHeader = .valid 1) ∧
    (([1] : List Byte).length = (field16 clearHeader 4).toNat ∧
      recordCheck 8 (clearHeader.take 6 ++ [3]) ≠ field16 clearHeader 6 ∧
      recordCheck 8 (clearHeader.take 6 ++ [1]) = field16 clearHeader 6) ∧
    (byteAt clearHeader 0 ∈ [5#8, 6#8, 8#8, 9#8] ∧ 9 < (254#8).toNat) ∧
    (∃ e, firstEntry (rebuilding 16352).settings .read = some e ∧ e.code = 0x03) ∧
    (ended.sup.step = .rebuild ∧ ended.trc.flash = none ∧ ended.trc.busy = none ∧ ended.lgp.logEnded = true ∧
      ended.lgp.cursor = 12256 ∧ (2 : Fin 4).val = 12256 / 4096 ∧ ([0xFF] : List Byte).length = 128 - 12256 / 32 % 128) ∧
    ((record 5 []).body = [] ∧ (rebuilding 0).stm.set = none ∧
      ((classed .trial (prep .receiving .good .good)).stm.set.bind CurrentSet.rebuildClass) = some .trial ∧
      (classed .unrecognized (prep .receiving .good .good)).stm.set.map CurrentSet.seq = some (record 5 []).seq ∧
      preparing .rejected = false ∧ preparing .receiving = true) := by
  refine ⟨by decide, by decide, by decide, by decide, by decide, by decide, ⟨_, rfl, by decide⟩, by decide, by decide⟩

theorem test_hyp_RebuildOpensAreClassed :
    ((record 6 []).body.length ≠ 4 ∧ (record 6 [2, 1, 12, 1]).body = [2#8, 1#8, 12#8, 1#8] ∧ ¬ (2#8).toNat ≤ 1) ∧
    (record 6 [1, 8, 12, 1]).body = [1#8, 8#8, 12#8, 1#8] ∧ (1#8).toNat = slotCode .slot1 ∧ (8#8).toNat ≤ 8 ∧
    12 ≤ (12#8).toNat ∧ 1 ≤ (1#8).toNat ∧ (5#16 ≤ (prep .idle .good .good).stm.logHigh) ∧
    (base.stm.logHigh < 6#16 ∧ 6#16 ≤ 6#16 ∧ 0#16 < 6#16) ∧ (trialImage.committedSeq < 5#16 ∧ trialImage.boot = .trial ∧
      5#16 = trialImage.trialSeq) ∧ (6#16 ≠ trialImage.trialSeq ∧ 6#16 ≠ trialImage.lastReverted) ∧
    (Slot.slot0 = base.bsv.image.committed ∧ Slot.slot1 ≠ base.bsv.image.committed ∧ base.bsv.image.trialSeq < 6#16) := by
  decide

/-- The rebuild with a full log ended. -/
def fullLog : State := (rebuilding 16384).setLgp
  { base.lgp with logEnded := true, appendPoint := 16384, cursor := 16384 }

theorem test_hyp_RebuildSettlesAndReleases :
    (fullLog.sup.step = .rebuild ∧ fullLog.trc.flash = none ∧ fullLog.trc.busy = none ∧ fullLog.lgp.logEnded = true ∧
      12288 ≤ fullLog.lgp.cursor ∧ fullLog.lgp.cursor ≤ 16384 ∧
      ([] : List Byte).length = 512 - fullLog.lgp.cursor / 32 ∧ fullLog.stm.set = none) ∧
    (12288 ≤ 12288 ∧ (List.replicate 128 (0 : Byte)).length = 512 - 12288 / 32) ∧
    ((prep .rejected .good .bad).stm.set = some cs5 ∧ cs5.rebuildClass = none ∧
      ({ cs5 with rebuildClass := some .reverted } : CurrentSet).rebuildClass = some .reverted) ∧
    ((atStep .release base).sup.step = .release ∧ (atStep .release base).sup.rstin = false) := by decide +kernel

/-! #### The laws -/

theorem test_hyp_EventListLawKept : EventListLaw base ∧ ∃ t, step base = .next t := by
  unfold EventListLaw; exact ⟨by decide, ⟨_, rfl⟩⟩

theorem ranged : LanesLaw queued where
  digest := by intro l hl; cases hl; unfold Lanes.inRange; decide
  scan := by intro c h; cases h
  chunks := by decide
  queued := by decide

theorem test_hyp_LanesLawKept : LanesLaw queued ∧ ∃ t, step queued = .next t := ⟨ranged, ⟨_, rfl⟩⟩

/-- Set 5 READY. -/
def readyRun : State := prep .ready .good .good

theorem tracked : QueueScanLaw readyRun where
  starting := by decide
  held := by decide
  components := by intro cs h; cases h; decide
  refs := by decide
  declared := by decide
  queueOnce := by decide
  queueServed := by intro _ r; simp [readyRun, prep, chunk]
  queueElse := by decide
  scanning := by decide
  scanned := nofun

theorem test_hyp_QueueScanLawKept : QueueScanLaw readyRun ∧ ∃ t, step readyRun = .next t := ⟨tracked, ⟨_, rfl⟩⟩

theorem test_hyp_ReadyLawKept : ReadyLaw readyRun ∧ ∃ t, step readyRun = .next t :=
  ⟨⟨tracked, by decide, by decide, by decide, by decide, by decide, by decide⟩, ⟨_, rfl⟩⟩

end Sys2Proof.Tests
end

section
/-!
PROOF. The decision points of the Traffic Controller (spec 01, 02): what each command that classes a transaction does
there, said once, and the statements about erases, programs, plain classes, BLOCK and reads that follow.
-/

namespace Sys2Proof.Machine

/-! ### The command byte and the decision point of each class -/

section DecisionPoint

variable {s : State} {c : CmdClass} {code : Byte}

theorem exec_read_of_atCommand (h : AtCommand s .read code) (a : Addr) :
    exec (.read code (some a)) s = .next (decideRead code a s) := by
  simp [exec, execRead, deciding_of_atCommand h]

theorem exec_program_of_atCommand (h : AtCommand s .program code) (a : Addr) :
    exec (.program code (some a)) s = .next (decideProgram code a s) := by
  simp [exec, execProgram, deciding_of_atCommand h]

theorem exec_erase4k_of_atCommand (h : AtCommand s .erase4k code) (a : Addr) :
    exec (.erase4k code (some a)) s = .next (decideErase .erase4k code a [granuleOf a]
      (if (lookup s.settings (granuleOf a)).outOfRange then some a else none) s) := by
  simp [exec, execErase4k, deciding_of_atCommand h]

theorem exec_erase64k_of_atCommand (h : AtCommand s .erase64k code) (a : Addr) :
    exec (.erase64k code (some a)) s = .next (decideErase .erase64k code a (blockGranules a)
      (lowestOutOfRange s.settings (blockGranules a)) s) := by
  simp [exec, execErase64k, deciding_of_atCommand h]

theorem exec_eraseAll_of_atCommand (h : AtCommand s .eraseAll code) :
    exec (.eraseAll code) s = .next (suppressWrite .eraseAll none s) := by
  simp [exec, execEraseAll, deciding_of_atCommand h]

theorem exec_block_of_atCommand (h : AtCommand s .block code) :
    exec (.block code) s =
      .next (post .blockedCommand (detailBytes code 0) (decideTxn .block none .suppress none s)) := by
  simp [exec, execBlock, deciding_of_atCommand h]

/-- R1, R3: the command byte of a class that carries an address enters the class. -/
theorem exec_of_atCommand_addressed {i : Instr} (h : AtCommand s c code)
    (hi : (c, i) ∈ [(CmdClass.read, Instr.read code none), (.program, .program code none),
      (.erase4k, .erase4k code none), (.erase64k, .erase64k code none)]) :
    exec i s = .next (enterClass c s) := by
  have hd := deciding_of_atCommand h
  simp only [List.mem_cons, Prod.mk.injEq, List.not_mem_nil, or_false] at hi
  obtain ⟨rfl, rfl⟩ | ⟨rfl, rfl⟩ | ⟨rfl, rfl⟩ | ⟨rfl, rfl⟩ := hi
  · simp [exec, execRead, hd]
  · simp [exec, execProgram, hd]
  · simp [exec, execErase4k, hd]
  · simp [exec, execErase64k, hd]

/-- R5: the command byte of a class that carries none forwards the transaction. -/
theorem exec_of_atCommand_plain {i : Instr} (h : AtCommand s c code)
    (hi : (c, i) ∈ [(CmdClass.statusRead, Instr.statusRead code), (.writeEnable, .writeEnable code),
      (.writeDisable, .writeDisable code), (.pass, .pass code)]) :
    exec i s = .next (decideTxn c none .forward (some (upstreamTxn s code none)) s) := by
  have hd : forwardPlain c code s = _ := if_pos (deciding_of_atCommand h)
  simp only [List.mem_cons, Prod.mk.injEq, List.not_mem_nil, or_false] at hi
  rw [← hd]
  obtain ⟨rfl, rfl⟩ | ⟨rfl, rfl⟩ | ⟨rfl, rfl⟩ | ⟨rfl, rfl⟩ := hi <;> rfl

/-- R2: what a class other than READ, STATUS_READ and BLOCK sends on the flash port has no dummy bytes. -/
theorem upstreamTxn_of_atCommand (h : AtCommand s c code) (hc : c ∉ [CmdClass.read, .statusRead, .block])
    (a : Option Addr) :
    upstreamTxn s code a = { owner := .upstream, code := code, addr := a, dummies := 0 } := by
  simp only [List.mem_cons, List.not_mem_nil, or_false, not_or] at hc
  rw [upstreamTxn, dummiesOf_of_classOf h.classed hc.1 hc.2.1 hc.2.2]

end DecisionPoint

/-! ### Erases (R7, R20, R26, R28, R48) -/

theorem all_erasePermits_iff {s : State} (h0 : s.sup.part ≠ .starting) (gs : List Nat) :
    gs.all (erasePermits s) = true ↔ ∀ g ∈ gs, GranuleWritable s g (SectorOpen s g) := by
  simp only [List.all_eq_true, erasePermits_iff s _ h0]

theorem postOutOfRange_eq (o : Option Addr) (s : State) : postOutOfRange o s = { s with
    rpu := o.elim s.rpu fun a => s.rpu.post .outOfRange (defaultSeq s) (detailAddr a) } := by
  cases o <;> rfl

theorem decideErase_of_writable {s : State} {gs : List Nat} (h0 : s.sup.part ≠ .starting)
    (h : ∀ g ∈ gs, GranuleWritable s g (SectorOpen s g)) (c : CmdClass) (code : Byte) (a : Addr) (oor : Option Addr) :
    decideErase c code a gs oor s = decideTxn c (some a) .forward (some (upstreamTxn s code (some a))) s :=
  if_pos ((all_erasePermits_iff h0 gs).2 h)

theorem decideErase_of_not_writable {s : State} {gs : List Nat} (h0 : s.sup.part ≠ .starting)
    (h : ∃ g ∈ gs, ¬ GranuleWritable s g (SectorOpen s g)) (c : CmdClass) (code : Byte) (a : Addr) (oor : Option Addr) :
    decideErase c code a gs oor s = suppressWrite c (some a) (postOutOfRange oor s) :=
  if_neg fun hall => by
    obtain ⟨g, hg, hw⟩ := h
    exact hw ((all_erasePermits_iff h0 gs).1 hall g hg)

/-- Settles O15: each sized erase is `decideErase` of its granules, which asks whether every granule permits
it. -/
theorem erasesAreForwardedOrSuppressed : Obligations.ErasesAreForwardedOrSuppressed := by
  refine ⟨fun s code a c i gs oor h hi => ?_, fun s code h => ?_⟩
  · have hexec : exec i s = .next (decideErase c code a gs oor s) := by
      obtain ⟨rfl, rfl, rfl, rfl⟩ | ⟨rfl, rfl, rfl, rfl⟩ := hi
      · exact exec_erase4k_of_atCommand h a
      · exact exec_erase64k_of_atCommand h a
    have hc : c = .erase4k ∨ c = .erase64k := hi.imp And.left And.left
    have hport := upstreamTxn_of_atCommand h (by obtain rfl | rfl := hc <;> simp) (some a)
    refine ⟨fun hw => ?_, fun hw => ?_⟩
    · rw [hexec, decideErase_of_writable h.awake hw, hport, decideTxn_eq]
    · rw [hexec, decideErase_of_not_writable h.awake hw, suppressWrite_eq, postOutOfRange_eq]
      cases oor <;> rfl
  · rw [exec_eraseAll_of_atCommand h, suppressWrite_eq]; rfl

/-! ### Programs (R6, R8, R20, R26, R28) -/

/-- Where the Log Parser is not asked, its ruling does not matter to the granule. -/
theorem granuleWritable_congr_of_not_append {s : State} {a : Addr} (h : ¬ IsAppendRequest s a) (p q : Prop)
    (hw : GranuleWritable s (granuleOf a) p) : GranuleWritable s (granuleOf a) q := by
  obtain ⟨hp, hforeign, hopen | hslot | ⟨hman, -⟩⟩ | hdeg := hw
  · exact .inl ⟨hp, hforeign, .inl hopen⟩
  · exact .inl ⟨hp, hforeign, .inr (.inl hslot)⟩
  · refine absurd ⟨hp, hman, fun n => ?_⟩ h
    by_contra hin
    exact absurd (hman.symm.trans (hforeign n (by simpa using hin))) (by simp)
  · exact .inr hdeg

theorem decideProgram_of_not_append {s : State} {a : Addr} (h : ¬ IsAppendRequest s a) (code : Byte) :
    decideProgram code a s =
      if permits s (granuleOf a) true then
        let t := decideTxn .program (some a) .forward (some (upstreamTxn s code (some a))) s
        setTxn { t.trc.txn with cut := none } t
      else suppressWrite .program (some a)
        (postOutOfRange (if (lookup s.settings (granuleOf a)).outOfRange then some a else none) s) := by
  have hasks : asksLog s (granuleOf a) = false := by simpa using mt (asksLog_iff s a).1 h
  simp [decideProgram, hasks, postRuling]

/-- Settles O16: no append request is put to the Log Parser, so the granule alone decides. -/
theorem programsAreForwardedOrSuppressed : Obligations.ProgramsAreForwardedOrSuppressed := by
  intro s code a h happ
  have hiff : permits s (granuleOf a) true = true ↔ GranuleWritable s (granuleOf a) False :=
    (permits_iff s _ true True (by simp) h.awake).trans
      ⟨granuleWritable_congr_of_not_append happ _ _, granuleWritable_congr_of_not_append happ _ _⟩
  have hport := upstreamTxn_of_atCommand h (by simp) (some a)
  rw [exec_program_of_atCommand h, decideProgram_of_not_append happ]
  refine ⟨fun hw => ?_, fun hw => ?_⟩
  · rw [if_pos (hiff.2 hw), hport]; rfl
  · rw [if_neg (mt hiff.1 hw), suppressWrite_eq, postOutOfRange_eq]
    split <;> rfl

/-! ### Plain classes (R5) -/

/-- Settles O9, by the two lemmas on what a command byte does: enter an addressed class, or forward a plain one. -/
theorem plainClassesAreForwarded : Obligations.PlainClassesAreForwarded := by
  intro s code c i h
  refine ⟨fun hi => ?_, fun hi => ?_⟩
  · rw [exec_of_atCommand_addressed h hi, enterClass_eq]
  · rw [exec_of_atCommand_plain h hi, decideTxn_eq]
    by_cases hc : c = .statusRead
    · simp [hc, upstreamTxn]
    · have hcs : c ∉ [CmdClass.read, .statusRead, .block] := by aesop
      rw [upstreamTxn_of_atCommand h hcs, if_neg hc]

/-! ### The release of UCS (R1, R13, R151) -/

theorem exec_ucsReleased_of_open {s : State} (ho : s.trc.txn.isOpen = true) (hs : s.trc.txn.inStarting = false) :
    exec .ucsReleased s =
      .next (if s.trc.txn.disposition = some .forward then endForwarded s.trc.txn (closeTxn s) else closeTxn s) := by
  simp only [exec, execUcsReleased, ho, hs, not_true_eq_false, Bool.false_eq_true, if_false]

/-! ### BLOCK (R9) -/

/-- R2: a code that no entry of the table carries takes the policy. -/
theorem classOf_of_unlisted {st : Settings} {code : Byte} (h : ∀ e, some e ∈ st.commands.toList → e.code ≠ code)
    (hp : st.policy = .block) : classOf st code = .block := by
  have hnone : entryOfCode st code = none := by
    rw [entryOfCode, List.findSome?_eq_none_iff]
    rintro (_ | e) he
    · rfl
    · simp [h e he]
  simp [classOf, hnone, hp]

/-- Settles O10: the record a BLOCK leaves is suppressed, so the later commands of the transaction pass it over. -/
theorem blockIsNotForwarded : Obligations.BlockIsNotForwarded := by
  refine ⟨fun s code h => ⟨_, exec_block_of_atCommand h, rfl, fun fdi => rfl, fun b => ?_, ?_⟩, fun st hst => ⟨?_, ?_⟩⟩
  · simp [exec, execProgramDataByte, decideTxn_eq, relays]
  · rw [exec_ucsReleased_of_open (by simp [decideTxn_eq, h.opened]) (by simp [decideTxn_eq, h.decoded])]
    simp [decideTxn_eq, closeTxn_eq]
  · have hentry : entryOfCode st 0x01#8 = entryOfCode builtInSettings 0x01#8 := by
      rw [entryOfCode, entryOfCode, hst]; rfl
    rw [classOf, hentry]; rfl
  · exact fun hp code hcode => classOf_of_unlisted hcode hp

/-! ### Reads (R3, R4, R24, R25, R30, R31, R151) -/

/-- R3: in a READ, whose address is three bytes long, UDO carries FFh up to the last dummy byte. -/
theorem udoAt_of_read {s : State} {code : Byte} (h : classOf s.settings code = .read) (n : Nat) (fdi : Byte) :
    udoAt s code n fdi = if n < 4 + dummiesOf s.settings code then 0xFF#8 else udo s fdi := by
  have hphase : phaseOf s.settings code n = if n = 0 then .command else if n ≤ 3 then .address
      else if n ≤ 3 + dummiesOf s.settings code then .dummy else .data := by
    simp [phaseOf, h, addressed]
  unfold udoAt
  rw [hphase]
  by_cases hn : n < 4 + dummiesOf s.settings code
  · rw [if_pos hn]
    by_cases h0 : n = 0
    · simp [h0]
    · by_cases h3 : n ≤ 3
      · simp [h0, h3]
      · simp [h0, h3, show n ≤ 3 + dummiesOf s.settings code by omega]
  · simp [hn, show n ≠ 0 by omega, show ¬ n ≤ 3 by omega, show ¬ n ≤ 3 + dummiesOf s.settings code by omega]

/-- A READ forwarded or translated to the flash address `f`: its record, its run and its flash transaction. -/
def readSent (s : State) (code : Byte) (a : Addr) (d : Disposition) (f : Nat) : State :=
  { s with trc := { s.trc with
      txn := { s.trc.txn with
        cls := some .read, start := some a, running := some a, disposition := some d
        run := some { flashAddr := f, translated := d == .translate, bootSlot := bootSlot s } }
      flash := some (upstreamTxn s code (some (BitVec.ofNat 24 f))) } }

theorem decideRead_of_forwarded {s : State} {a : Addr} (code : Byte)
    (h : (∃ n, (lookup s.settings (granuleOf a)).kind = .slot n) ∨
      (lookup s.settings (granuleOf a)).kind = .manifest ∨ (lookup s.settings (granuleOf a)).kind = .openArea ∨
      (lookup s.settings (granuleOf a)).kind = .locked) :
    decideRead code a s = readSent s code a .forward a.toNat := by
  obtain ⟨n, hk⟩ | hk | hk | hk := h <;> simp only [decideRead, hk] <;> rfl

theorem decideRead_of_bootView {s : State} {a : Addr} (code : Byte)
    (h : (lookup s.settings (granuleOf a)).kind = .bootView) :
    decideRead code a s = readSent s code a .translate (translate s.settings (bootSlot s) a) := by
  simp only [decideRead, h]; rfl

theorem decideRead_of_report {s : State} {a : Addr} (code : Byte)
    (h : (lookup s.settings (granuleOf a)).kind = .report) :
    decideRead code a s =
      (decideTxn .read (some a) .answer none s).setRpu { s.rpu with snapshot := some (snapshotOf s) } := by
  simp only [decideRead, h]; rfl

theorem decideRead_of_hidden {s : State} {a : Addr} (code : Byte)
    (h : (lookup s.settings (granuleOf a)).kind = .hidden) :
    decideRead code a s = postFilled a (decideTxn .read (some a) .fill none s) := by
  simp only [decideRead, h]

/-- What the flash returns reaches UDO in the data phase. -/
theorem udo_readSent {s : State} {code : Byte} {a : Addr} {d : Disposition} {f : Nat}
    (h : d = .forward ∨ d = .translate) (fdi : Byte) : udo (readSent s code a d f) fdi = fdi := by
  obtain rfl | rfl := h <;> rfl

theorem udo_of_filled {s : State} (h : s.trc.txn.disposition = some .fill) (fdi : Byte) : udo s fdi = 0xFF#8 := by
  simp [udo, h]

/-- Settles O11: the two ways to the flash are one state, `readSent`, at two addresses. -/
theorem readsThatReachTheFlash : Obligations.ReadsThatReachTheFlash := by
  intro s code a h d f hd
  have hsent : decideRead code a s = readSent s code a d f := by
    obtain ⟨hk, rfl, rfl⟩ | ⟨hk, rfl, rfl⟩ := hd
    · exact decideRead_of_forwarded code hk
    · exact decideRead_of_bootView code hk
  refine ⟨readSent s code a d f, by rw [exec_read_of_atCommand h, hsent], rfl, fun n fdi => ?_⟩
  rw [udoAt_of_read (s := readSent s code a d f) h.classed, udo_readSent (hd.imp (·.2.1) (·.2.1))]; rfl

/-- Settles O12, by the report and the hidden case of the decision point. -/
theorem readsAnsweredOrFilled : Obligations.ReadsAnsweredOrFilled := by
  intro s code a h
  refine ⟨fun hk => ⟨_, exec_read_of_atCommand h a, ?_, fun fdi => ?_, fun n fdi => ?_⟩,
    fun hk => ⟨_, exec_read_of_atCommand h a, ?_, fun n fdi => ?_⟩⟩
  · rw [decideRead_of_report code hk]; rfl
  · rw [decideRead_of_report code hk]; rfl
  · rw [decideRead_of_report code hk]; exact udoAt_of_read (by exact h.classed) n fdi
  · rw [decideRead_of_hidden code hk, postFilled_eq, decideTxn_eq]; rfl
  · rw [decideRead_of_hidden code hk, postFilled_eq, udoAt_of_read (by exact h.classed), udo_of_filled rfl, ite_self]

end Sys2Proof.Machine
end

section
/-!
PROOF. The data bytes of programs and the live parsing of the log (spec 01, 03): what an appended byte does in each
phase of the parser, and the statement that appended bytes build records.
-/

namespace Sys2Proof.Machine

/-! ### Data bytes (R6, R39, R40) -/

/-- A data byte short of the cut boundary of a permitted append passes to the flash and is put to the Log Parser. -/
theorem dataByte_of_within {s : State} {cut : Nat} {start a : Addr} (hc : s.trc.txn.cut = some cut)
    (h : start.toNat + s.trc.txn.received < cut) (b : Byte) :
    dataByte b start a .forward s = takeByte (a.toNat - areaBase s.settings) b (passByte b a s) := by
  simp [dataByte, hc, Nat.not_le.2 h]

theorem dataByte_of_cut {s : State} {cut : Nat} {start a : Addr} (hc : s.trc.txn.cut = some cut)
    (h : cut ≤ start.toNat + s.trc.txn.received) (b : Byte) :
    dataByte b start a .forward s = discardCut cut a s := by
  simp [dataByte, hc, h]

theorem dataByte_of_no_cut {s : State} (hc : s.trc.txn.cut = none) (start a : Addr) (b : Byte) :
    dataByte b start a .forward s = passByte b a s := by
  simp [dataByte, hc]

/-- R40: the first byte at or beyond the cut boundary posts LOG_CUT, a later one nothing. -/
theorem discardCut_eq (cut : Nat) (a : Addr) (s : State) : discardCut cut a s = { s with
    trc := { s.trc with
      txn := { s.trc.txn with
        received := s.trc.txn.received + 1, cutPosted := true
        running := some (BitVec.ofNat 24 (a.toNat / 256 * 256 + (a.toNat + 1) % 256)) }
      flash := none }
    rpu := if s.trc.txn.cutPosted then s.rpu
      else s.rpu.post .logCut (defaultSeq s) (detailAddr (BitVec.ofNat 24 cut)) } := by
  unfold discardCut
  cases s.trc.txn.cutPosted <;> rfl

/-! ### A byte joins the buffer (R39, R42) -/

/-- The state in which an appended byte has joined the buffer and raised the append point. -/
def byteJoined (b : Byte) (s : State) : State :=
  s.setLgp { s.lgp with appendPoint := s.lgp.appendPoint + 1, buffer := s.lgp.buffer ++ [b] }

section AppendByte

variable {s : State} {b : Byte}

theorem appendByte_of_short_header (hp : s.lgp.phase = .awaitingHeader) (hl : (s.lgp.buffer ++ [b]).length < 8) :
    appendByte b s = byteJoined b s := by
  simp only [appendByte, hp, State.setLgp_lgp, if_pos hl]; rw [← hp]; rfl

theorem appendByte_of_torn_header (hp : s.lgp.phase = .awaitingHeader) (hl : (s.lgp.buffer ++ [b]).length = 8) {n : Nat}
    (hj : judgeHeader (recordStart s.lgp) (s.lgp.buffer ++ [b]) = .torn n) :
    appendByte b s = tearRecord (recordStart s.lgp) n (byteJoined b s) := by
  simp only [appendByte, hp, State.setLgp_lgp, if_neg (show ¬ (s.lgp.buffer ++ [b]).length < 8 by omega), hj]; rfl

theorem appendByte_of_header (hp : s.lgp.phase = .awaitingHeader) (hl : (s.lgp.buffer ++ [b]).length = 8) {n : Nat}
    (hj : judgeHeader (recordStart s.lgp) (s.lgp.buffer ++ [b]) = .valid n) :
    appendByte b s = if bodyLength (s.lgp.buffer ++ [b]) = 0 then
        completeRecord (recordStart s.lgp) (s.lgp.buffer ++ [b]) [] (byteJoined b s)
      else (byteJoined b s).setLgp { (byteJoined b s).lgp with phase := .awaitingBody } := by
  simp only [appendByte, hp, State.setLgp_lgp, if_neg (show ¬ (s.lgp.buffer ++ [b]).length < 8 by omega), hj]; rfl

theorem appendByte_of_body (hp : s.lgp.phase = .awaitingBody) :
    appendByte b s = if (s.lgp.buffer ++ [b]).length < 8 + bodyLength (s.lgp.buffer ++ [b]) then byteJoined b s
      else completeRecord (recordStart s.lgp) ((s.lgp.buffer ++ [b]).take 8) ((s.lgp.buffer ++ [b]).drop 8)
        (byteJoined b s) := by
  simp only [appendByte, hp, State.setLgp_lgp]; rw [← hp]; rfl

/-- R42: the byte that brings the buffer to a whole header and its declared body completes the record. -/
theorem appendByte_of_complete {hdr body : List Byte} (hl : hdr.length = 8) (hbuf : s.lgp.buffer ++ [b] = hdr ++ body)
    (hb : body.length = bodyLength hdr)
    (hv : s.lgp.phase = .awaitingHeader → body = [] ∧ ∃ n, judgeHeader (recordStart s.lgp) hdr = .valid n) :
    appendByte b s = completeRecord (recordStart s.lgp) hdr body (byteJoined b s) := by
  cases hp : s.lgp.phase with
  | awaitingHeader =>
    obtain ⟨rfl, n, hj⟩ := hv hp
    rw [List.append_nil] at hbuf
    have hlen : (s.lgp.buffer ++ [b]).length = 8 := by rw [hbuf, hl]
    rw [appendByte_of_header hp hlen (by rw [hbuf]; exact hj), hbuf,
      if_pos (by exact hb.symm)]
  | awaitingBody =>
    have hlen : bodyLength (hdr ++ body) = bodyLength hdr := by
      simp [bodyLength, field16, byteAt, List.getD_eq_getElem?_getD, List.getElem?_append_left, hl]
    rw [appendByte_of_body hp, hbuf, hlen, if_neg (by simp [hl, hb]), List.take_left' hl, List.drop_left' hl]

end AppendByte

/-! ### A complete record (R44 to R47) -/

theorem checkAgrees_iff (hdr body : List Byte) :
    checkAgrees hdr body = true ↔ recordCheck (byteAt hdr 0) (hdr.take 6 ++ body) = field16 hdr 6 := beq_iff_eq

/-- A complete record that is whole is handed with the append point at its cell boundary and the buffer empty. -/
theorem completeRecord_of_agrees {hdr body : List Byte}
    (h : recordCheck (byteAt hdr 0) (hdr.take 6 ++ body) = field16 hdr 6) (start : Nat) (s : State) :
    completeRecord start hdr body s = handRecord (byteAt hdr 0) (recordFrom s.settings start hdr body)
      (s.setLgp { s.lgp with
        appendPoint := max s.lgp.appendPoint (cellEnd start (byteAt hdr 1).toNat)
        buffer := [], phase := .awaitingHeader }) := by
  simp only [completeRecord, (checkAgrees_iff hdr body).2 h, if_true]

theorem completeRecord_of_disagrees {hdr body : List Byte}
    (h : recordCheck (byteAt hdr 0) (hdr.take 6 ++ body) ≠ field16 hdr 6) (start : Nat) (s : State) :
    completeRecord start hdr body s = tearRecord start (byteAt hdr 1).toNat s := by
  simp only [completeRecord, mt (checkAgrees_iff hdr body).1 h]; rfl

/-- R46, R47: the Log Parser's hand-off is the command that the kind byte names. -/
theorem exec_recordRow {s : State} (h : Handed s) {kind : Byte} (hk : kind ≠ 0xFF#8) (r : Record) :
    exec (recordRow kind r) s = .next (handRecord kind r s) := by
  have hh := handsRecord_of_handed h
  unfold recordRow handRecord
  cases hkind : recordKindOf kind with
  | none => simp [exec, execUnknownKind, handOff, hh, hkind, hk]
  | some k =>
    have hoff (f : State → State) : handOff f s = f s := if_pos hh
    cases k <;> exact congrArg Host.Outcome.next (hoff _)

/-- Settles O19: the byte is put to the Log Parser at its append point, and each clause is a case of `appendByte`. -/
theorem appendedBytesBuildRecords : Obligations.AppendedBytesBuildRecords := by
  intro s b start a cut hprog hrun hcut hwithin happend p buf o hp hbuf ho
  obtain rfl : p = passByte b a s := hp
  obtain rfl : o = recordStart (passByte b a s).lgp := ho
  have hexec : exec (.programDataByte b) s = .next (appendByte b (passByte b a s)) := by
    rw [programDataByte_of_programming b hprog, dataByte_of_within hcut hwithin]
    exact congrArg _ (if_pos happend)
  rw [hexec]
  subst hbuf
  refine ⟨fun hdr body hl hsplit hb hk hv => ?_, fun hp hl => ?_, fun hp hl n hj => ?_, fun hp hl hpos n hj => ?_,
    fun hp hl => ?_⟩
  · rw [appendByte_of_complete (s := passByte b a s) hl hsplit hb hv]
    refine ⟨fun hagree => ?_, fun hdis => ?_⟩
    · have happends : (passByte b a s).trc.txn.cut ≠ none := by simp [passByte_eq, hcut]
      rw [completeRecord_of_agrees hagree]
      refine (exec_recordRow ?_ hk _).symm
      exact ⟨hrun, .inr happends⟩
    · rw [completeRecord_of_disagrees hdis, tearRecord_eq]; rfl
  · rw [appendByte_of_short_header (s := passByte b a s) hp hl]; rfl
  · rw [appendByte_of_torn_header (s := passByte b a s) hp hl hj, tearRecord_eq]; rfl
  · rw [appendByte_of_header (s := passByte b a s) hp hl hj, if_neg (by exact hpos.ne')]; rfl
  · rw [appendByte_of_body (s := passByte b a s) hp, if_pos (by exact hl)]; rfl

/-- Settles O18, by the ways a data byte can go: on to the flash, into the log, past the cut, or nowhere. -/
theorem dataBytesPassOrAreDiscarded : Obligations.DataBytesPassOrAreDiscarded := by
  refine ⟨fun s b start a hprog hpass => ?_, fun s b start a ho hs hcls hstart hrun hd => ?_,
    fun s b start a cut hprog hcut hbeyond => ?_, fun s b c f ho hs hc hcls hd hf => ?_, flashBytes_sent⟩
  · rw [programDataByte_of_programming b hprog]
    obtain hcut | ⟨cut, hcut, hwithin, hbelow⟩ := hpass
    · rw [dataByte_of_no_cut hcut, passByte_eq]
    · rw [dataByte_of_within hcut hwithin, takeByte, if_neg (by exact hbelow), passByte_eq]
  · have hexec : exec (.programDataByte b) s = .next (dataByte b start a .suppress s) := by
      simp [exec, execProgramDataByte, upstreamHolds, relays, ho, hs, hcls, hstart, hrun, hd]
    rw [hexec]; rfl
  · rw [programDataByte_of_programming b hprog, dataByte_of_cut hcut hbeyond, discardCut_eq]
  · have hrelays : relays s.trc.txn = true := by
      simp only [List.mem_cons, List.not_mem_nil, or_false] at hc
      obtain rfl | rfl | rfl | rfl | rfl | rfl := hc <;> simp [relays, hcls, hd, passesOn]
    rw [programDataByte_of_relays b (by simp [upstreamHolds, ho, hs]) hrelays, sendOn_eq, hf]; rfl

end Sys2Proof.Machine
end

section
/-!
PROOF. The course of an upstream transaction and of the flash port (spec 01): the select, the bytes and crossings of a
read, the release, the part's own transactions, FLASH_BUSY and STUCK; and power-on.
-/

namespace Sys2Proof.Machine

/-! ### Power-on (R141) -/

/-- Settles O2, with RSTIN asserted and released. -/
theorem powerOnGivesStartValues : Obligations.PowerOnGivesStartValues := by
  intro s
  have hexec : exec .powerOn s = .next (if s.sup.rstin then startValues s.now .none Rpu.start s
    else beginSequence (startValues s.now .none Rpu.start s)) := rfl
  rw [hexec]
  cases h : s.sup.rstin <;> simp only [startValues, h] <;> rfl

/-! ### The select (R10, R19, R106) -/

section Ignored

variable {s : State}

theorem upstreamHolds_of_open (ho : s.trc.txn.isOpen = true) (hs : s.trc.txn.inStarting = false) :
    upstreamHolds s = true := by
  simp [upstreamHolds, ho, hs]

theorem upstreamHolds_eq_false_iff (s : State) :
    upstreamHolds s = false ↔ s.trc.txn.isOpen = false ∨ s.trc.txn.inStarting = true := by
  simp [upstreamHolds]; cases s.trc.txn.isOpen <;> simp

/-- R19: a transaction that holds no port is at no decision point. -/
theorem deciding_of_not_holds (h : upstreamHolds s = false) (c : CmdClass) (code : Byte) :
    deciding s c code = false := by
  simp [deciding, h]

theorem exec_readGranuleCrossing_of_not_holds (h : upstreamHolds s = false) (w : Option Nat) :
    exec (.readGranuleCrossing w) s = .next s := by
  cases hr : s.trc.txn.running <;> simp [exec, execReadGranuleCrossing, h, hr]

theorem exec_reportReadLeavesWindow_of_not_holds (h : upstreamHolds s = false) (w : Option Nat) :
    exec (.reportReadLeavesWindow w) s = .next s := by
  simp only [exec, execReportReadLeavesWindow, h, Bool.false_eq_true, if_false]
  split <;> rfl

theorem exec_of_ignored (h : upstreamHolds s = false) (code b : Byte) (a : Option Addr) (w : Option Nat) :
    ∀ i ∈ [Instr.read code a, .readGranuleCrossing w, .reportReadLeavesWindow w, .statusRead code, .writeEnable code,
      .writeDisable code, .pass code, .program code a, .erase4k code a, .erase64k code a, .eraseAll code, .block code,
      .programDataByte b], exec i s = .next s := by
  have hd := deciding_of_not_holds h
  have hplain (c : CmdClass) :
      (.next (forwardPlain c code s) : Host.Outcome State Fault Refusal) = .next s :=
    congrArg _ (if_neg (by simp [hd]))
  simp only [List.forall_mem_cons, List.not_mem_nil, false_imp_iff, implies_true, and_true]
  refine ⟨?_, exec_readGranuleCrossing_of_not_holds h w, exec_reportReadLeavesWindow_of_not_holds h w, hplain _,
    hplain _, hplain _, hplain _, ?_, ?_, ?_, ?_, ?_, ?_⟩
  · simp [exec, execRead, hd]
  · simp [exec, execProgram, hd]
  · simp [exec, execErase4k, hd]
  · simp [exec, execErase64k, hd]
  · simp [exec, execEraseAll, hd]
  · simp [exec, execBlock, hd]
  · simp [exec, execProgramDataByte, h]

end Ignored

/-- Settles O8: a transaction opened in STARTING does not hold the port, and so its commands are passed over. -/
theorem selectTakesThePort : Obligations.SelectTakesThePort := by
  refine ⟨fun s ho hp => ?_, fun s ho hp => ?_, fun s code b a w ho hs => ⟨?_, ?_⟩⟩
  · simp only [exec, execUcsAsserted, ho, awake, hp, bne_iff_ne, ne_eq, not_false_eq_true, if_true]; rfl
  · simp only [exec, execUcsAsserted, ho, awake, hp]; rfl
  · exact exec_of_ignored ((upstreamHolds_eq_false_iff s).2 (.inr hs)) code b a w
  · simp only [exec, execUcsReleased, ho, hs]; rfl

/-! ### The bytes and crossings of a read (R31 to R35) -/

section Crossing

variable {s : State} {a : Addr}

theorem exec_readGranuleCrossing_of_run (h : upstreamHolds s = true) (ha : s.trc.txn.running = some a)
    (hr : s.trc.txn.run ≠ none) (w : Option Nat) :
    exec (.readGranuleCrossing w) s = .next (sendToCrossing w a continueRun s) := by
  simp [exec, execReadGranuleCrossing, ha, h, Option.isSome_iff_ne_none.2 hr]

theorem exec_readGranuleCrossing_of_filled (h : upstreamHolds s = true) (ha : s.trc.txn.running = some a)
    (hr : s.trc.txn.run = none) (hd : s.trc.txn.disposition = some .fill) (w : Option Nat) :
    exec (.readGranuleCrossing w) s = .next (sendToCrossing w a id s) := by
  simp [exec, execReadGranuleCrossing, ha, h, hr, hd]

theorem exec_reportReadLeavesWindow_of_answered (h : upstreamHolds s = true) (ha : s.trc.txn.running = some a)
    (hd : s.trc.txn.disposition = some .answer) (w : Option Nat) :
    exec (.reportReadLeavesWindow w) s = .next (sendToCrossing w a leaveWindow s) := by
  simp [exec, execReportReadLeavesWindow, ha, h, hd]

theorem sendToCrossing_of_short {k : Nat} (h : k < 4096 - a.toNat % 4096) (judge : State → State) (s : State) :
    sendToCrossing (some k) a judge s = sendBytes k s := if_pos h

/-- R32: at the crossing the run's next address is compared with the new granule's own mapping. -/
theorem continueRun_eq {t : State} {run : Run} (hr : t.trc.txn.run = some run) (ha : t.trc.txn.running = some a) :
    continueRun t = if mappedTo t.settings run.bootSlot a = some run.flashAddr then t else turnToFill a t := by
  simp [continueRun, hr, ha]

/-- R33, R34: a read that turns to fill keeps nothing of the bytes sent before but its record. -/
theorem turnToFill_sendBytes (n : Addr) (k : Nat) (s : State) : turnToFill n (sendBytes k s) = turnToFill n s := by
  simp only [turnToFill_eq]; rfl

end Crossing

/-- Settles O14: the bytes up to the crossing bring the running address to the new granule, where the run is judged. -/
theorem crossingContinuesOrFills : Obligations.CrossingContinuesOrFills := by
  intro s a n ho hs ha hn filled
  have hup := upstreamHolds_of_open ho hs
  have hfilled : turnToFill n s = filled := turnToFill_eq n s
  have hnext : (sendBytes (bytesToCrossing a) s).trc.txn.running = some n := by
    simp [sendBytes_eq, ha, bytesToCrossing_add a n hn]
  have hsent (k : Nat) : sendBytes k s = { s with trc := { s.trc with txn := { s.trc.txn with
      running := some (BitVec.ofNat 24 (a.toNat + k))
      run := s.trc.txn.run.map fun run => { run with
        flashAddr := (run.flashAddr + k) % 2 ^ s.settings.flashExp } } } } := by
    rw [sendBytes_eq, ha]; rfl
  refine ⟨fun run next hr hrun => ?_, fun hd => ?_, fun k hk => ⟨fun hread => ?_, fun hd => ?_⟩, fun hr hd => ?_⟩
  · have hrun' : (sendBytes (bytesToCrossing a) s).trc.txn.run = some { run with flashAddr := next } := by
      simp [sendBytes_eq, hr, hrun, bytesToCrossing]
    rw [exec_readGranuleCrossing_of_run hup ha (by simp [hr]), sendToCrossing, continueRun_eq hrun' hnext]
    refine ⟨fun hm => ?_, fun hm => ?_⟩
    · rw [if_pos (by exact hm), sendBytes_eq, ha, hr, Option.map_some, bytesToCrossing_add a n hn, hrun]; rfl
    · rw [if_neg (by exact hm), turnToFill_sendBytes, hfilled]
  · have hleave : leaveWindow (sendBytes (bytesToCrossing a) s) = turnToFill n (sendBytes (bytesToCrossing a) s) := by
      simp [leaveWindow, hnext]
    rw [exec_reportReadLeavesWindow_of_answered hup ha hd, sendToCrossing, hleave, turnToFill_sendBytes, hfilled]
  · by_cases hr : s.trc.txn.run = none
    · rw [exec_readGranuleCrossing_of_filled hup ha hr (hread.resolve_left (· hr)), sendToCrossing_of_short hk, hsent]
    · rw [exec_readGranuleCrossing_of_run hup ha hr, sendToCrossing_of_short hk, hsent]
  · rw [exec_reportReadLeavesWindow_of_answered hup ha hd, sendToCrossing_of_short hk, hsent]
  · rw [exec_readGranuleCrossing_of_filled hup ha hr hd, sendToCrossing, id, hsent]; rfl

/-! ### The release of UCS (R1, R5 to R7, R13, R14) -/

section EndForwarded

variable {t : Txn} {a : Addr}

/-- R1: a class that neither writes nor moves the write-enable latch leaves nothing to do. -/
theorem endForwarded_of_no_write (h : t.cls = some .read ∨ t.cls = some .statusRead ∨ t.cls = some .pass) (s : State) :
    endForwarded t s = s := by
  obtain h | h | h := h <;> simp [endForwarded, h]

/-- R13: the end of a forwarded WRITE_ENABLE, WRITE_DISABLE or PROGRAM with no byte passed. -/
theorem endForwarded_of_latch (h : t.cls = some .writeEnable ∨ t.cls = some .writeDisable ∨
    (t.cls = some .program ∧ t.start ≠ none ∧ t.passed = false)) (s : State) :
    endForwarded t s = clearCleanup s := by
  obtain h | h | ⟨h, hstart, hp⟩ := h
  · simp [endForwarded, h]
  · simp [endForwarded, h]
  · obtain ⟨a, ha⟩ := Option.ne_none_iff_exists'.1 hstart
    simp [endForwarded, h, ha, hp]

theorem endForwarded_of_program (h : t.cls = some .program) (ha : t.start = some a) (hp : t.passed = true) (s : State) :
    endForwarded t s = endProgram a (clearCleanup s) := by
  simp [endForwarded, h, ha, hp]

theorem endForwarded_of_erase4k (h : t.cls = some .erase4k) (ha : t.start = some a) (s : State) :
    endForwarded t s = endErase a [granuleOf a] (clearCleanup s) := by
  simp [endForwarded, h, ha]

theorem endForwarded_of_erase64k (h : t.cls = some .erase64k) (ha : t.start = some a) (s : State) :
    endForwarded t s = endErase a (blockGranules a) (clearCleanup s) := by
  simp [endForwarded, h, ha]

end EndForwarded

/-- Settles O21, by what `endForwarded` leaves to do for each class. -/
theorem releaseClosesTheTransaction : Obligations.ReleaseClosesTheTransaction := by
  intro s ho hs
  rw [exec_ucsReleased_of_open ho hs]
  refine ⟨fun h => ?_, fun hd hc => ?_⟩
  · by_cases hd : s.trc.txn.disposition = some .forward
    · rw [if_pos hd, endForwarded_of_no_write (h.resolve_left (· hd)), closeTxn_eq]
    · rw [if_neg hd, closeTxn_eq]
  · rw [if_pos hd, endForwarded_of_latch hc, closeTxn_eq]; rfl

/-- Settles O22: the busy period begins on the closed record, before the notices are given. -/
theorem releaseOfAWriteStartsTheBusyPeriod : Obligations.ReleaseOfAWriteStartsTheBusyPeriod := by
  intro s a ho hs hd ha after
  have hafter (k : PeriodKind) : startBusy k a (clearCleanup (closeTxn s)) = after k := rfl
  rw [exec_ucsReleased_of_open ho hs, if_pos hd]
  refine ⟨fun hc hp => ?_, fun hc => ?_, fun hc => ?_⟩
  · rw [endForwarded_of_program hc ha hp, endProgram, hafter]
  · rw [endForwarded_of_erase4k hc ha, endErase, hafter]
  · rw [endForwarded_of_erase64k hc ha, endErase, hafter]

/-! ### The part's own transactions on the flash port (R11 to R13, R16) -/

section Port

variable {s : State}

theorem portFree_of_idle (ho : s.trc.txn.isOpen = false ∨ s.trc.txn.inStarting = true) (hf : s.trc.flash = none) :
    portFree s = true := by
  simp [portFree, (upstreamHolds_eq_false_iff s).2 ho, hf]

theorem portOwnedBy_eq {f : FlashTxn} (hf : s.trc.flash = some f) (c : Claimant) :
    portOwnedBy c s = (f.owner == c) := by
  simp [portOwnedBy, hf]

theorem exec_statusPoll_of_not_mayRun (h : pollMayRun s = false) : exec .statusPoll s = .next s := by
  cases he : firstEntry s.settings .statusRead <;> simp [exec, execStatusPoll, he, h]

theorem exec_statusPoll_of_mayRun {e : CmdEntry} (he : firstEntry s.settings .statusRead = some e)
    (h : pollMayRun s = true) : exec .statusPoll s =
      .next (takePort { owner := .poll, code := e.code, addr := none, dummies := e.dummies } s) := by
  simp [exec, execStatusPoll, he, h]

theorem exec_scanStart_of_not_mayRun (h : scanMayRun s = false) : exec .scanStart s = .next s := by
  simp only [exec, execScanStart, h, Bool.and_false, Bool.false_eq_true, if_false]
  split
  · split <;> rfl
  · rfl

theorem exec_scanResume_of_not_mayRun (h : scanMayRun s = false) : exec .scanResume s = .next s := by
  simp only [exec, execScanResume, h, Bool.false_eq_true, if_false]
  split
  · split <;> rfl
  · rfl

/-- R12, log 28: in a start-up's rebuild with STUCK set and no poll owed the read has the turn. -/
theorem pollMayRun_iff (s : State) : pollMayRun s = true ↔ portFree s = true ∧ s.trc.busy ≠ none ∧
    ((s.sup.part ≠ .starting ∧ s.trc.cleanup = false) ∨
      (s.sup.part = .starting ∧ (s.sup.step ≠ .rebuild ∨ s.trc.stuck = false ∨ s.lgp.pollOwed = true))) := by
  simp only [pollMayRun, flashBusy, awake, Bool.and_eq_true, Option.isSome_iff_ne_none, and_assoc]
  refine and_congr_right fun _ => and_congr_right fun _ => ?_
  by_cases hp : s.sup.part = .starting
  · simp [hp, or_assoc]
  · simp [hp]

end Port

/-- Settles O41: cleanup pending denies the poll and the scan their turn. -/
theorem cleanupRunsAndClears : Obligations.CleanupRunsAndClears := by
  refine ⟨fun s e hp ho hf hc he => ?_, fun s f hf hown => ?_⟩
  · have hfree := portFree_of_idle ho hf
    have hpoll : pollMayRun s = false := by
      rw [← Bool.not_eq_true, pollMayRun_iff]; simp [hp, hc]
    have hscan : scanMayRun s = false := by simp [scanMayRun, hc]
    refine ⟨?_, exec_statusPoll_of_not_mayRun hpoll, exec_scanStart_of_not_mayRun hscan,
      exec_scanResume_of_not_mayRun hscan⟩
    simp only [exec, execWriteDisableCleanup, he, awake, hfree, hc, bne_iff_ne, ne_eq, hp, not_false_eq_true,
      Bool.and_true, if_true, takePort_eq]
  · have howned : portOwnedBy .cleanup s = true := by simp [portOwnedBy_eq hf, hown]
    simp only [exec, execCleanupComplete, howned, if_true]; rfl

/-- Settles O42, by the poll's turn (`pollMayRun_iff`) and the tracking of a status byte (`trackBusy_eq`). -/
theorem statusBytesTrackTheFlash : Obligations.StatusBytesTrackTheFlash := by
  refine ⟨fun s e ho hf hb he hturn => ?_, fun s h => ?_, fun s b polled h => ?_⟩
  · rw [exec_statusPoll_of_mayRun he ((pollMayRun_iff s).2 ⟨portFree_of_idle ho hf, hb, hturn⟩), takePort_eq]
  · refine exec_statusPoll_of_not_mayRun ?_
    rw [← Bool.not_eq_true, pollMayRun_iff]
    obtain hb | ⟨hp, hstep, hstuck, howed⟩ := h
    · simp [hb]
    · simp [hp, hstep, hstuck, howed]
  · obtain ⟨rfl, f, hf, hown⟩ | ⟨rfl, ⟨f, hf, hown⟩, ho, hs, hc, hd⟩ := h
    · have howned : portOwnedBy .poll s = true := by simp [portOwnedBy_eq hf, hown]
      simp only [exec, execStatusByte, howned, if_true, trackBusy_eq]; rfl
    · have howned : portOwnedBy .poll s = false := by simp [portOwnedBy_eq hf, hown]
      simp only [exec, execStatusByte, howned, upstreamHolds_of_open ho hs, hc, hd, trackBusy_eq]; rfl

/-! ### The busy limit (R17) -/

/-- Settles O43: the clock moves to one past the limit, and never back. -/
theorem busyLimitSetsStuck : Obligations.BusyLimitSetsStuck := by
  intro s p limit hb hstuck hlimit
  have hbusy : busyLimit s.settings p.kind = limit := by rw [hlimit]; cases p.kind <;> rfl
  have hexec : exec .busyLimitExpiry s = .next (post .flashStuck (detailAddr p.addr)
      ((elapseTo (p.since + limit + 1) s).setTrc { s.trc with stuck := true })) := by
    simp [exec, execBusyLimitExpiry, hb, hstuck, hbusy]
  have hnow : s.now + (p.since + limit + 1 - s.now) = max s.now (p.since + limit + 1) := by omega
  refine ⟨_, hexec, hnow, rfl, rfl, ?_, rfl, rfl, rfl, rfl, rfl, rfl, rfl⟩
  simp [elapseTo_eq, elapse_eq]

end Sys2Proof.Machine
end

section
/-!
PROOF. The rebuild (spec 03 section 3.5): when it may read, how the cursor moves, and the judgement of the record that
begins at the cursor.
-/

namespace Sys2Proof.Machine

/-! ### The reads of the rebuild (R12, R51, R54) -/

section Reads

variable {s : State}

theorem rebuildMayRead_of_step (hstep : s.sup.step = .rebuild) (hf : s.trc.flash = none)
    (hb : s.trc.busy = none ∨ (s.trc.stuck = true ∧ s.lgp.pollOwed = false)) : rebuildMayRead s = true := by
  obtain hb | ⟨hstuck, howed⟩ := hb
  · simp [rebuildMayRead, flashBusy, hstep, hf, hb]
  · simp [rebuildMayRead, flashBusy, hstep, hf, hstuck, howed]

theorem exec_rebuildReadDone_of_ended (h : rebuildMayRead s = true) (he : s.lgp.logEnded = true) (bytes : List Byte) :
    exec (.rebuildReadDone bytes) s = .next (readSector bytes s) := by
  simp [exec, execRebuildReadDone, h, he]

theorem exec_rebuildReadDone_of_not_ended (h : rebuildMayRead s = true) (he : s.lgp.logEnded = false)
    (bytes : List Byte) : exec (.rebuildReadDone bytes) s = .next (rebuildRecordAt bytes s) := by
  simp [exec, execRebuildReadDone, h, he]

/-- R51: the read that stands on the flash port. -/
theorem flashPort_of_rebuild (h : rebuildMayRead s = true) (hf : s.trc.flash = none) (hc : s.lgp.cursor < 16384)
    {e : CmdEntry} (he : firstEntry s.settings .read = some e) :
    flashPort s = some { owner := .rebuild, code := e.code, addr := some (areaAddr s.settings s.lgp.cursor),
                         dummies := e.dummies } := by
  simp [flashPort, rebuildRead, hf, h, he, areaSize, hc]

end Reads

/-! ### The cursor (R51, R52) -/

/-- The cursor passes the `n` cells of the record it stands at; at the area end the log ends there. -/
def cursorPast (n : Nat) (s : State) : State :=
  moveCursor (cellEnd s.lgp.cursor n) (afterRead s)

theorem passed_eq (n : Nat) (s : State) : cursorPast n s = { s with lgp :=
    if 16384 ≤ s.lgp.cursor + 32 * n then
      { s.lgp with cursor := 16384, logEnded := true, appendPoint := 16384
                   pollOwed := s.trc.busy.isSome && s.trc.stuck }
    else { s.lgp with cursor := s.lgp.cursor + 32 * n, pollOwed := s.trc.busy.isSome && s.trc.stuck } } := by
  by_cases h : 16384 ≤ s.lgp.cursor + 32 * n
  · simp only [cursorPast, moveCursor_eq, afterRead_eq, cellEnd, areaSize, Nat.min_eq_left h, le_refl, h, if_true]
  · have hend : min 16384 (s.lgp.cursor + 32 * n) = s.lgp.cursor + 32 * n := by omega
    simp only [cursorPast, moveCursor_eq, afterRead_eq, cellEnd, areaSize, hend, h, if_false]

/-- R52: a torn record posts its event and is passed. -/
theorem tearRebuilt_eq (n : Nat) (s : State) : tearRebuilt s.lgp.cursor n (afterRead s) = { cursorPast n s with
    rpu := s.rpu.post .recordTorn (defaultSeq s) (detailAddr (areaAddr s.settings s.lgp.cursor)) } := by
  simp only [tearRebuilt, cursorPast, moveCursor_eq]; rfl

/-! ### The judgement of a record (R43 to R46, R52) -/

section Judgement

variable {s : State} {bytes hdr : List Byte}

theorem not_short_of_header (hh : bytes.take 8 = hdr) (hl : hdr.length = 8) : ¬ bytes.length < 8 := by
  rw [← hh, List.length_take] at hl; omega

theorem rebuildRecordAt_of_blank (hh : bytes.take 8 = hdr) (hl : hdr.length = 8) (hk : byteAt hdr 0 = 0xFF#8) :
    rebuildRecordAt bytes s =
      afterRead (s.setLgp { s.lgp with logEnded := true, appendPoint := s.lgp.cursor }) := by
  simp only [rebuildRecordAt, not_short_of_header hh hl, hh, hk, if_false, if_true]

theorem rebuildRecordAt_of_torn (hh : bytes.take 8 = hdr) (hl : hdr.length = 8) (hk : byteAt hdr 0 ≠ 0xFF#8) {n : Nat}
    (hj : judgeHeader s.lgp.cursor hdr = .torn n) :
    rebuildRecordAt bytes s = tearRebuilt s.lgp.cursor n (afterRead s) := by
  simp only [rebuildRecordAt, not_short_of_header hh hl, hh, hk, hj, if_false]

/-- A record whose header is valid and whose declared body has been read is judged by its check. -/
theorem rebuildRecordAt_of_valid (hh : bytes.take 8 = hdr) (hl : hdr.length = 8) (hk : byteAt hdr 0 ≠ 0xFF#8) {n : Nat}
    (hj : judgeHeader s.lgp.cursor hdr = .valid n) {body : List Byte}
    (hbody : body = (bytes.drop 8).take (bodyLength hdr)) (hb : body.length = bodyLength hdr) :
    rebuildRecordAt bytes s = if checkAgrees hdr body then
        handRebuilt (byteAt hdr 0) (recordFrom s.settings s.lgp.cursor hdr body) (cursorPast n s)
      else tearRebuilt s.lgp.cursor n (afterRead s) := by
  simp only [rebuildRecordAt, not_short_of_header hh hl, hh, hk, hj, ← hbody, hb, lt_irrefl, if_false]; rfl

end Judgement

/-- R158: a kind byte outside 1 to 9 names no kind. -/
theorem recordKindOf_of_unknown {kind : Byte} (h : kind.toNat = 0 ∨ 9 < kind.toNat) : recordKindOf kind = none := by
  unfold recordKindOf
  split
  on_goal 10 => rfl
  all_goals omega

/-- R52: COMMIT, CONFIRM, CLEAR and RESCAN are skipped. -/
theorem handRebuilt_of_skipped {kind : Byte} (h : kind ∈ [5#8, 6#8, 8#8, 9#8]) (r : Record) (s : State) :
    handRebuilt kind r s = s := by
  simp only [List.mem_cons, List.not_mem_nil, or_false] at h
  obtain rfl | rfl | rfl | rfl := h <;> rfl

theorem handRebuilt_of_unknown {kind : Byte} (h : kind.toNat = 0 ∨ 9 < kind.toNat) (r : Record) (s : State) :
    handRebuilt kind r s = { s with rpu := s.rpu.post .recordRefused r.seq (detailBytes kind 10) } := by
  simp only [handRebuilt, recordKindOf_of_unknown h]; rfl

/-! ### An ABANDON at rebuild (R71) -/

theorem recognized_iff (cs : CurrentSet) :
    recognized cs = true ↔ cs.rebuildClass ∈ [some RebuildClass.installed, some .trial, some .reverted] := by
  unfold recognized
  cases cs.rebuildClass with
  | none => simp
  | some k => cases k <;> simp

theorem refuse_abandon_eq (reason : RefuseReason) (r : Record) (s : State) : refuse .abandon reason r s = { s with
    rpu := s.rpu.post .recordRefused r.seq (detailBytes 7 (byteOf (refuseCode reason))) } := rfl

theorem rebuildAbandon_of_body {r : Record} (h : r.body ≠ []) (s : State) :
    rebuildAbandon r s = refuse .abandon .malformed r s := by
  simp [rebuildAbandon, h]

theorem rebuildAbandon_of_no_set {r : Record} {s : State} (h : r.body = []) (hs : s.stm.set = none) :
    rebuildAbandon r s = refuse .abandon .noSet r s := by
  simp [rebuildAbandon, abandonSet, h, hs]

theorem rebuildAbandon_of_set {r : Record} {s : State} {cs : CurrentSet} (h : r.body = []) (hs : s.stm.set = some cs) :
    rebuildAbandon r s = if recognized cs then s
      else if r.seq ≠ cs.seq then refuse .abandon .wrongSequence r s
      else if preparing s.stm.setState then enterFrozen .abandoned s
      else refuse .abandon .wrongState r s := by
  simp [rebuildAbandon, abandonSet, h, hs]

/-- Settles O53: the read is granted, and each clause is a case of the judgement of the bytes at the cursor. -/
theorem rebuildJudgesRecords : Obligations.RebuildJudgesRecords := by
  refine ⟨fun s e hstep hf hb hc he => ?_, fun s kinds k hstep hf hb he hc hk hl => ?_,
    fun s r => ⟨fun h => rebuildAbandon_of_body h s, fun h hs => rebuildAbandon_of_no_set h hs, fun cs h hs => ?_⟩, ?_⟩
  · exact flashPort_of_rebuild (rebuildMayRead_of_step hstep hf hb) hf hc he
  · have hsector : sectorOfOffset s.lgp.cursor = k := Fin.ext (by simp [sectorOfOffset, Fin.ofNat, hk]; omega)
    rw [exec_rebuildReadDone_of_ended (rebuildMayRead_of_step hstep hf hb) he, readSector_eq, if_pos ⟨hc, hl⟩]
    simp only [hsector, hk]
  · rw [rebuildAbandon_of_set h hs]
    refine ⟨fun hc => if_pos ((recognized_iff cs).2 hc), fun hc => ?_⟩
    have hr : recognized cs = false := by simp [recognized, hc]
    refine ⟨fun hseq => ?_, fun hseq hp => ?_, fun hseq hp => ?_⟩
    · simp [hr, hseq, refuse_abandon_eq]
    · simp [hr, hseq, hp, refuse_abandon_eq]
    · simp [hr, hseq, hp, enterFrozen_eq]
  · intro s bytes hdr body hstep hf hb he hh hl hbody owed past torn r
    have hpast (n : Nat) : cursorPast n s = past n := passed_eq n s
    have htorn (n : Nat) : tearRebuilt s.lgp.cursor n (afterRead s) = torn n := by rw [tearRebuilt_eq, hpast]
    rw [exec_rebuildReadDone_of_not_ended (rebuildMayRead_of_step hstep hf hb) he]
    refine ⟨fun hk => ?_, fun hk => ⟨fun n hj => ?_, fun n hj hlen => ⟨fun hdis => ?_, fun hagree => ?_⟩⟩⟩
    · rw [rebuildRecordAt_of_blank hh hl hk]; rfl
    · rw [rebuildRecordAt_of_torn hh hl hk hj, htorn]
    · rw [rebuildRecordAt_of_valid hh hl hk hj hbody hlen, if_neg (mt (checkAgrees_iff hdr body).1 hdis), htorn]
    · rw [rebuildRecordAt_of_valid hh hl hk hj hbody hlen, if_pos ((checkAgrees_iff hdr body).2 hagree), hpast]
      refine ⟨fun hkind => ?_, fun hkind => ?_, fun hkind => ?_, fun hkind => ?_, fun hkind => ?_, fun hkind => ?_,
        fun hkind => ?_⟩
      · rw [handRebuilt_of_skipped hkind]
      · rw [handRebuilt_of_unknown hkind]; rfl
      all_goals rw [hkind]; rfl

end Sys2Proof.Machine
end

section
/-!
PROOF. The profile port at a start-up (spec 08): the constraints on the two tables, the bytes that go out on the port,
the presence check, and the judgement of the profile image.
-/

namespace Sys2Proof.Machine

/-! ### The region table (R22) -/

/-- The entries of one kind. -/
def entriesOf (rs : List Region) (k : RegionKind) : List Region := rs.filter fun r => r.kind = k

theorem mem_slotEntries (rs : List Region) (r : Region) :
    r ∈ entriesWhere rs (fun k => k = .slot .slot0 ∨ k = .slot .slot1) ↔
      r ∈ entriesOf rs (.slot .slot0) ∨ r ∈ entriesOf rs (.slot .slot1) := by
  simp [entriesWhere, entriesOf, and_or_left]

/-- The constraints that bind a slot entry by itself: alignment, size and place. -/
def SlotFits (flashExp : Nat) (r : Region) : Prop :=
  r.base.toNat % 16 = 0 ∧ r.granules % 16 = 0 ∧ 16 ≤ r.granules ∧ r.granules ≤ 2048 ∧
    r.limit.toNat < 2 ^ (flashExp - 12)

/-- R22 with the Boolean checks read as sentences about the entries of each kind. -/
theorem regionsOk_iff_checks (rs : List Region) (flashExp : Nat) : regionsOk rs flashExp = true ↔
    (∀ r ∈ rs, r.base.toNat ≤ r.limit.toNat) ∧
    (∃ x, entriesOf rs (.slot .slot0) = [x]) ∧ (∃ y, entriesOf rs (.slot .slot1) = [y]) ∧
    (∀ r, r ∈ entriesOf rs (.slot .slot0) ∨ r ∈ entriesOf rs (.slot .slot1) →
      SlotFits flashExp r ∧ (∀ q, q ∈ entriesOf rs (.slot .slot0) ∨ q ∈ entriesOf rs (.slot .slot1) →
        r.granules = q.granules)) ∧
    (entriesOf rs .bootView).length ≤ 1 ∧
    (∀ r ∈ entriesOf rs .bootView, ∀ q, q ∈ entriesOf rs (.slot .slot0) ∨ q ∈ entriesOf rs (.slot .slot1) →
      r.granules = q.granules) ∧
    (∃ m, entriesOf rs .manifest = [m]) ∧
    (∀ r ∈ entriesOf rs .manifest, r.granules = 4 ∧ r.limit.toNat < 2 ^ (flashExp - 12)) ∧
    (entriesOf rs .report).length ≤ 1 ∧ ∀ r ∈ entriesOf rs .report, r.granules = 1 := by
  have hkind (k : RegionKind) : entriesWhere rs (fun x => decide (x = k)) = entriesOf rs k := rfl
  simp only [regionsOk, hkind, Bool.and_eq_true, List.all_eq_true, beq_iff_eq, decide_eq_true_eq,
    List.length_eq_one_iff, mem_slotEntries, SlotFits]
  constructor
  · rintro ⟨⟨⟨⟨⟨⟨⟨⟨⟨⟨⟨⟨hle, hx⟩, hy⟩, hsize⟩, halign⟩, hlen⟩, hbelow⟩, hone⟩, hview⟩, hm⟩, hman⟩, hrep⟩, hrepSize⟩
    exact ⟨hle, hx, hy, fun r hr => ⟨⟨(halign r hr).1, (halign r hr).2, (hlen r hr).1, (hlen r hr).2, hbelow r hr⟩,
      hsize r hr⟩, hone, hview, hm, hman, hrep, hrepSize⟩
  · rintro ⟨hle, hx, hy, hslots, hone, hview, hm, hman, hrep, hrepSize⟩
    refine ⟨⟨⟨⟨⟨⟨⟨⟨⟨⟨⟨⟨hle, hx⟩, hy⟩, fun r hr => (hslots r hr).2⟩, fun r hr => ?_⟩, fun r hr => ?_⟩, fun r hr => ?_⟩,
      hone⟩, hview⟩, hm⟩, hman⟩, hrep⟩, hrepSize⟩
    all_goals obtain ⟨⟨hbase, hgran, hmin, hmax, hlim⟩, -⟩ := hslots r hr
    · exact ⟨hbase, hgran⟩
    · exact ⟨hmin, hmax⟩
    · exact hlim

/-- R22 with the one entry of each slot and of the manifest area named. -/
theorem regionsOk_iff (rs : List Region) (flashExp : Nat) : regionsOk rs flashExp = true ↔
    (∀ r ∈ rs, r.base.toNat ≤ r.limit.toNat) ∧
    (∃ x y, entriesOf rs (.slot .slot0) = [x] ∧ entriesOf rs (.slot .slot1) = [y] ∧ x.granules = y.granules ∧
      (∀ r ∈ [x, y], SlotFits flashExp r) ∧
      (entriesOf rs .bootView).length ≤ 1 ∧ ∀ r ∈ entriesOf rs .bootView, r.granules = x.granules) ∧
    (∃ m, entriesOf rs .manifest = [m] ∧ m.granules = 4 ∧ m.limit.toNat < 2 ^ (flashExp - 12)) ∧
    (entriesOf rs .report).length ≤ 1 ∧ ∀ r ∈ entriesOf rs .report, r.granules = 1 := by
  rw [regionsOk_iff_checks]
  refine and_congr_right fun _ => ?_
  constructor
  · rintro ⟨⟨x, hx⟩, ⟨y, hy⟩, hslots, hone, hview, ⟨m, hm⟩, hman, hrep⟩
    simp only [hx, hy, List.mem_singleton, forall_eq_or_imp, forall_eq] at hslots hview
    obtain ⟨⟨hfitx, -, hxy⟩, hfity, -⟩ := hslots
    exact ⟨⟨x, y, hx, hy, hxy, by simp [hfitx, hfity], hone, fun r hr => (hview r hr).1⟩,
      ⟨m, hm, hman m (by simp [hm])⟩, hrep⟩
  · rintro ⟨⟨x, y, hx, hy, hxy, hfit, hone, hview⟩, ⟨m, hm, hman⟩, hrep⟩
    simp only [hx, hy, hm, List.mem_singleton, forall_eq_or_imp, forall_eq]
    exact ⟨⟨x, rfl⟩, ⟨y, rfl⟩, ⟨⟨hfit x (by simp), trivial, hxy⟩, hfit y (by simp), hxy.symm, trivial⟩, hone,
      fun r hr => ⟨hview r hr, (hview r hr).trans hxy⟩, ⟨m, rfl⟩, hman, hrep⟩

/-! ### The command class table (R139) -/

/-- Section 1.3: the first entry of a class has none of that class before it. -/
theorem firstEntry_eq_some_iff (st : Settings) (c : CmdClass) (e : CmdEntry) : firstEntry st c = some e ↔
    ∃ first rest, st.commands.toList = first ++ some e :: rest ∧ e.cls = c ∧ ∀ x, some x ∈ first → x.cls ≠ c := by
  have hsome (o : Option CmdEntry) (x : CmdEntry) :
      (o.bind fun e => if e.cls = c then some e else none) = some x ↔ o = some x ∧ x.cls = c := by
    cases o <;> aesop
  have hnone (first : List (Option CmdEntry)) :
      (∀ o ∈ first, (o.bind fun e => if e.cls = c then some e else none) = none) ↔
        ∀ x, some x ∈ first → x.cls ≠ c := by
    constructor
    · intro h x hx hc
      have := h _ hx
      simp [hc] at this
    · rintro h (_ | x) hx
      · rfl
      · simp [h x hx]
  simp only [firstEntry, List.findSome?_eq_some_iff, hsome, hnone]
  constructor
  · rintro ⟨first, _, rest, heq, ⟨rfl, hc⟩, hf⟩
    exact ⟨first, rest, heq, hc, hf⟩
  · rintro ⟨first, rest, heq, hc, hf⟩
    exact ⟨first, some e, rest, heq, ⟨rfl, hc⟩, hf⟩

theorem firstEntry_isSome_iff (st : Settings) (c : CmdClass) :
    (firstEntry st c).isSome = true ↔ ∃ e, some e ∈ st.commands.toList ∧ e.cls = c := by
  rw [firstEntry, List.findSome?_isSome_iff]
  constructor
  · rintro ⟨_ | e, he, h⟩
    · simp at h
    · exact ⟨e, he, by by_contra hc; simp [hc] at h⟩
  · rintro ⟨e, he, hc⟩
    exact ⟨some e, he, by simp [hc]⟩

/-- R139 test COMMANDS: the first READ entry carries an address, and STATUS_READ and WRITE_DISABLE have entries. -/
theorem commandsOk_iff (st : Settings) : commandsOk st = true ↔
    (∃ first e rest, st.commands.toList = first ++ some e :: rest ∧ e.cls = .read ∧ e.addrFlag = true ∧
      ∀ x, some x ∈ first → x.cls ≠ .read) ∧
    (∃ e, some e ∈ st.commands.toList ∧ e.cls = .statusRead) ∧
    (∃ e, some e ∈ st.commands.toList ∧ e.cls = .writeDisable) := by
  have hflag : ((firstEntry st .read).map CmdEntry.addrFlag).getD false = true ↔
      ∃ e, firstEntry st .read = some e ∧ e.addrFlag = true := by
    cases firstEntry st .read <;> simp
  rw [commandsOk, Bool.and_eq_true, Bool.and_eq_true, hflag, firstEntry_isSome_iff, firstEntry_isSome_iff, and_assoc]
  refine and_congr_left' ?_
  simp only [firstEntry_eq_some_iff]
  constructor
  · rintro ⟨e, ⟨first, rest, heq, hc, hf⟩, ha⟩
    exact ⟨first, e, rest, heq, hc, ha, hf⟩
  · rintro ⟨first, e, rest, heq, hc, ha, hf⟩
    exact ⟨e, ⟨first, rest, heq, hc, hf⟩, ha⟩

/-! ### The bytes on the profile port (R118, R133) -/

/-- The address bytes of a journal position, high byte first. -/
theorem positionAddr_bytes {p : Nat} (hp : p < 16) :
    [(positionAddr p).extractLsb' 8 8, (positionAddr p).extractLsb' 0 8] =
      [BitVec.ofNat 8 (8 + p / 4), BitVec.ofNat 8 (64 * (p % 4))] := by
  revert p; decide

theorem positionAddr_toNat {p : Nat} (hp : p < 16) : (positionAddr p).toNat = 0x800 + 64 * p := by
  rw [positionAddr, BitVec.toNat_ofNat]; omega

/-- R118: the bytes of the five steps of an entry write. -/
theorem entryWrite_bytes {p : Nat} (hp : p < 16) (e : JournalEntry) :
    (entryWrite p e).map profileBytes =
      [[0x05], [0x06],
        0x02 :: [BitVec.ofNat 8 (8 + p / 4), BitVec.ofNat 8 (64 * (p % 4))] ++ entryBytes e, [0x05],
        0x03 :: [BitVec.ofNat 8 (8 + p / 4), BitVec.ofNat 8 (64 * (p % 4))]] := by
  rw [← positionAddr_bytes hp]
  simp [entryWrite, profileBytes, profileStatus, profileRead, profileCommandCode]

theorem profilePort_of_presence {s : State} (h : s.sup.step = .presence) : profilePort s = [profileStatus] := by
  simp [profilePort, h]

theorem profilePort_of_profileLoad {s : State} (h : s.sup.step = .profileLoad) :
    profilePort s = if s.ppc.presence = .present then [profileRead 0x0000] else [] := by
  simp [profilePort, h]

theorem profilePort_of_journalRead {s : State} (h : s.sup.step = .journalRead) :
    profilePort s = [profileRead 0x0800] := by
  simp [profilePort, h]

theorem profilePort_of_inFlight {s : State} {kind : EntryKind} {entry : JournalEntry}
    (hstep : s.sup.step = .finished ∨ s.sup.step = .accounting) (h : InFlight s kind entry) :
    profilePort s = entryWrite s.bsv.next entry := by
  obtain ⟨hr, since, hw⟩ := h
  obtain hstep | hstep := hstep <;> simp [profilePort, hstep, hr, hw]

/-- R118, R133: the part writes to the profile memory at the next journal position alone. -/
theorem addr_of_mem_profilePort {s : State} {x : ProfileTxn} (hx : x ∈ profilePort s) (hw : x.command = .write) :
    x.addr = some (positionAddr s.bsv.next) := by
  have hread {a : Word16} (h : x = profileRead a) : False := by subst h; simp [profileRead] at hw
  have hentry {e : JournalEntry} (h : x ∈ entryWrite s.bsv.next e) : x.addr = some (positionAddr s.bsv.next) := by
    simp only [entryWrite, List.mem_cons, List.not_mem_nil, or_false] at h
    obtain rfl | rfl | rfl | rfl | h := h
    · simp [profileStatus] at hw
    · simp at hw
    · rfl
    · simp [profileStatus] at hw
    · exact (hread h).elim
  unfold profilePort at hx
  split at hx
  · simp only [List.mem_singleton] at hx
    simp [hx, profileStatus] at hw
  · split at hx
    · exact (hread (List.mem_singleton.1 hx)).elim
    · simp at hx
  · exact (hread (List.mem_singleton.1 hx)).elim
  all_goals
    split at hx
    · split at hx
      · simp at hx
      · exact hentry hx
    · simp at hx

/-! ### The judgement of the profile image (R136, R139) -/

/-- R136: the image passes the tests on its frame. -/
def Framed (img : List Byte) : Prop :=
  byteAt img 0 = 0xA6#8 ∧ byteAt img 1 = 0x01#8 ∧ entryBytesCount img ≤ 2042 ∧
    storeCheck (img.take (4 + entryBytesCount img)) = field16 img (4 + entryBytesCount img)

section Judgement

variable {img : List Byte}

theorem judgeImage_of_blank (h : byteAt img 0 ≠ 0xA6#8) : judgeImage img = .default := by
  simp [judgeImage, h]

theorem judgeImage_of_format (h0 : byteAt img 0 = 0xA6#8) (h1 : byteAt img 1 ≠ 0x01#8) :
    judgeImage img = .invalid .format 0 := by
  simp [judgeImage, h0, h1]

theorem judgeImage_of_length (h0 : byteAt img 0 = 0xA6#8) (h1 : byteAt img 1 = 0x01#8)
    (hc : 2042 < entryBytesCount img) : judgeImage img = .invalid .length 0 := by
  simp [judgeImage, h0, h1, hc]

theorem judgeImage_of_check (h0 : byteAt img 0 = 0xA6#8) (h1 : byteAt img 1 = 0x01#8)
    (hc : entryBytesCount img ≤ 2042)
    (hs : storeCheck (img.take (4 + entryBytesCount img)) ≠ field16 img (4 + entryBytesCount img)) :
    judgeImage img = .invalid .check 0 := by
  simp [judgeImage, h0, h1, hc, hs]

theorem judgeImage_of_framed (h : Framed img) :
    judgeImage img = judgeItems (itemsOf ((img.drop 4).take (entryBytesCount img))) := by
  obtain ⟨h0, h1, hc, hs⟩ := h
  simp [judgeImage, h0, h1, hc, hs]

variable {items : List (Byte × Word32)}

theorem judgeItems_of_entry {item : Nat} (h : failingItem items = some item) :
    judgeItems items = .invalid .entry item := by
  simp [judgeItems, h]

theorem judgeItems_of_commands (h : failingItem items = none) (hc : commandsOk (settingsOf items) = false) :
    judgeItems items = .invalid .commands 0 := by
  simp [judgeItems, h, hc]

theorem judgeItems_of_regions (h : failingItem items = none) (hc : commandsOk (settingsOf items) = true)
    (hr : regionsOk ((settingsOf items).regions.toList.filterMap id) (settingsOf items).flashExp = false) :
    judgeItems items = .invalid .regions 0 := by
  simp only [judgeItems, h, hc, hr, not_true_eq_false, Bool.false_eq_true, not_false_eq_true, if_true, if_false]

theorem judgeItems_of_sound (h : failingItem items = none) (hc : commandsOk (settingsOf items) = true)
    (hr : regionsOk ((settingsOf items).regions.toList.filterMap id) (settingsOf items).flashExp = true) :
    judgeItems items = .loaded (settingsOf items) := by
  simp only [judgeItems, h, hc, hr, not_true_eq_false, if_false]

end Judgement

/-! ### The presence check and the profile load (R135, R136, R140) -/

/-- The state once the load has put settings and a profile state in force and the status check has begun (R18, R140). -/
def profileApplied (s : State) (st : Settings) (p : ProfileState) (why : Option InvalidReason) (next : StartStep)
    (rpu : Rpu) : State :=
  { s with
    settings := st, ppc := { s.ppc with profile := p, invalid := why }, sup := { s.sup with step := next }
    trc := { s.trc with busy := some { since := s.now, kind := .erase, addr := 0 }, stuck := false }, rpu := rpu }

theorem applyVerdict_loaded_eq (st : Settings) (next : StartStep) (s : State) :
    goTo next (startStatusCheck (applyVerdict (.loaded st) false s)) =
      profileApplied s st .loaded none next s.rpu := rfl

theorem applyVerdict_default_eq (absent : Bool) (next : StartStep) (s : State) :
    goTo next (startStatusCheck (applyVerdict .default absent s)) =
      profileApplied s builtInSettings .default none next
        (s.rpu.post .profileDefault (defaultSeq s) (detailBytes (if absent then 1 else 2) 0)) := rfl

theorem applyVerdict_invalid_eq (why : InvalidReason) (item : Nat) (next : StartStep) (s : State) :
    goTo next (startStatusCheck (applyVerdict (.invalid why item) false s)) =
      profileApplied s builtInSettings .invalid (some why) next
        (s.rpu.post .profileInvalid (defaultSeq s) (detailBytes (byteOf (invalidCode why)) (byteOf item))) := rfl

section StartUp

variable {s : State}

theorem exec_presenceCheck_of_step (h : s.sup.step = .presence) (b : Byte) : exec (.presenceCheck b) s = .next
    (if b = 0xFF#8 then presenceKnown .absent s
     else if b.getLsbD 0 = false then presenceKnown .present s
     else s.setPpc { s.ppc with pollSince := some (s.ppc.pollSince.getD s.now) }) := by
  simp [exec, execPresenceCheck, h]

theorem exec_presenceTimeout_of_step (h : s.sup.step = .presence) {t : Nat} (hp : s.ppc.pollSince = some t) :
    exec .presenceTimeout s = .next (presenceKnown .absent (elapseTo (t + 20) s)) := by
  simp [exec, execPresenceTimeout, h, hp]

theorem exec_profileLoad_of_present (h : s.sup.step = .profileLoad) (hp : s.ppc.presence = .present)
    (image : List Byte) :
    exec (.profileLoad image) s =
      .next (goTo .journalRead (startStatusCheck (applyVerdict (judgeImage (fit 2048 image)) false s))) := by
  simp [exec, execProfileLoad, h, hp, pulledUp]

theorem exec_profileLoad_of_absent (h : s.sup.step = .profileLoad) (hp : s.ppc.presence ≠ .present)
    (image : List Byte) : exec (.profileLoad image) s =
      .next (goTo .rebuild (post .noStore 0 (startStatusCheck (applyVerdict .default true s)))) := by
  simp [exec, execProfileLoad, h, hp]

end StartUp

/-- Settles O49: the tables' constraints, the port's bytes, the presence check, and the load as a case of the image's
judgement. -/
theorem presenceAndProfile : Obligations.PresenceAndProfile := by
  refine ⟨regionsOk_iff, commandsOk_iff, ?_, ?_, ?_⟩
  · intro s sent
    refine ⟨fun h => ?_, fun h => ?_, fun h => ?_, ?_, fun hn x hx hw => ?_⟩
    · simp only [sent, profilePort_of_presence h]; rfl
    · simp only [sent, profilePort_of_profileLoad h]
      split <;> rfl
    · simp only [sent, profilePort_of_journalRead h]; rfl
    · rintro h kind entry p hw rfl hp
      simp only [sent, profilePort_of_inFlight h hw, entryWrite_bytes hp]
    · exact ⟨_, addr_of_mem_profilePort hx hw, by rw [positionAddr_toNat hn]; omega⟩
  · intro s b hstep known
    rw [exec_presenceCheck_of_step hstep]
    refine ⟨fun hb => ?_, fun hb => ?_, fun hb hne => ?_, fun since hs => ?_⟩
    · rw [if_pos hb]; rfl
    · have hne : b ≠ 0xFF#8 := by rintro rfl; simp at hb
      rw [if_neg hne, if_pos hb]; rfl
    · rw [if_neg hne, if_neg (by simp [hb])]; rfl
    · rw [exec_presenceTimeout_of_step hstep hs, elapseTo_eq]; rfl
  · intro s image hstep img count items loaded framed fails
    refine ⟨fun hp => ?_, fun hp => ?_⟩
    · rw [exec_profileLoad_of_absent hstep hp]; rfl
    · rw [exec_profileLoad_of_present hstep hp]
      refine ⟨fun h => ?_, fun why item h => ?_, fun hf hi hc hr => ?_⟩
      · rw [judgeImage_of_blank h, applyVerdict_default_eq]; rfl
      · have hverdict : judgeImage (fit 2048 image) = .invalid why item := by
          obtain ⟨rfl, rfl, h0, h1⟩ | ⟨rfl, rfl, h0, h1, hc⟩ | ⟨rfl, rfl, h0, h1, hc, hs⟩ | ⟨rfl, hf, hi⟩ |
            ⟨rfl, rfl, hf, hi, hc⟩ | ⟨rfl, rfl, hf, hi, hc, hr⟩ := h
          · exact judgeImage_of_format h0 h1
          · exact judgeImage_of_length h0 h1 hc
          · exact judgeImage_of_check h0 h1 hc hs
          · exact (judgeImage_of_framed hf).trans (judgeItems_of_entry hi)
          · exact (judgeImage_of_framed hf).trans (judgeItems_of_commands hi hc)
          · exact (judgeImage_of_framed hf).trans (judgeItems_of_regions hi hc hr)
        rw [hverdict, applyVerdict_invalid_eq]; rfl
      · have hverdict : judgeImage (fit 2048 image) = .loaded (settingsOf items) :=
          (judgeImage_of_framed hf).trans (judgeItems_of_sound hi hc hr)
        rw [hverdict, applyVerdict_loaded_eq]; rfl

end Sys2Proof.Machine
end

section
/-!
PROOF. The Chunk Tracker's ledger (spec 05): what the queue, the scan context and the chunk states owe each other, kept
by every move of a chunk.
-/

namespace Sys2Proof.Machine

/-! ### The ledger (R85, R91) -/

/-- The reference and the state of every chunk, in set order. -/
def chunkStates (s : State) : List (ChunkRef × ChunkState) := s.ckt.chunks.map fun c => (c.ref, c.state)

/-- The chunk of a reference takes a state. -/
def restate (r : ChunkRef) (st : ChunkState) (cs : List (ChunkRef × ChunkState)) : List (ChunkRef × ChunkState) :=
  cs.map fun p => if p.1 = r then (r, st) else p

/-- R85, R91: a served queue holds exactly the DIRTY chunks, each once, one not served nothing; the scan context stands
for the SCANNING chunk, and only while the queue is served. -/
structure Ledger (served : Bool) (cs : List (ChunkRef × ChunkState)) (queue : List ChunkRef) (scan : Option ChunkRef) :
    Prop where
  refs : (cs.map Prod.fst).Nodup
  once : queue.Nodup
  queued : ∀ r, r ∈ queue ↔ served = true ∧ (r, .dirty) ∈ cs
  scanned : ∀ r, scan = some r ↔ (r, .scanning) ∈ cs
  scanServed : scan ≠ none → served = true

section Ledger

variable {b : Bool} {cs : List (ChunkRef × ChunkState)} {queue : List ChunkRef} {scan : Option ChunkRef} {r : ChunkRef}
  {x st : ChunkState}

theorem map_fst_restate (r : ChunkRef) (st : ChunkState) (cs : List (ChunkRef × ChunkState)) :
    (restate r st cs).map Prod.fst = cs.map Prod.fst := by
  rw [restate, List.map_map]
  refine List.map_congr_left fun p _ => ?_
  by_cases h : p.1 = r <;> simp [h]

theorem mem_restate_iff (hr : (r, x) ∈ cs) (p : ChunkRef × ChunkState) :
    p ∈ restate r st cs ↔ if p.1 = r then p.2 = st else p ∈ cs := by
  obtain ⟨q, y⟩ := p
  simp only [restate, List.mem_map]
  by_cases h : q = r
  · subst h
    simp only [if_true]
    constructor
    · rintro ⟨p, -, hp⟩
      split at hp <;> simp_all
    · rintro rfl
      exact ⟨_, hr, by simp⟩
  · simp only [h, if_false]
    constructor
    · rintro ⟨p, hp, he⟩
      split at he <;> simp_all
    · exact fun hp => ⟨_, hp, by simp [h]⟩

theorem Ledger.state_unique (h : Ledger b cs queue scan) (hx : (r, x) ∈ cs) (hst : (r, st) ∈ cs) : x = st :=
  congrArg Prod.snd (List.inj_on_of_nodup_map h.refs hx hst rfl)

theorem Ledger.mem_queue_iff (h : Ledger b cs queue scan) (hr : (r, x) ∈ cs) : r ∈ queue ↔ b = true ∧ x = .dirty := by
  rw [h.queued]
  exact and_congr_right fun _ => ⟨fun hd => h.state_unique hr hd, fun hd => hd ▸ hr⟩

theorem Ledger.scan_eq_iff (h : Ledger b cs queue scan) (hr : (r, x) ∈ cs) : scan = some r ↔ x = .scanning := by
  rw [h.scanned]
  exact ⟨fun hd => h.state_unique hr hd, fun hd => hd ▸ hr⟩

/-- One chunk takes a state, with its place in the queue and in the scan context. -/
theorem Ledger.move (h : Ledger b cs queue scan) (hr : (r, x) ∈ cs) {queue' : List ChunkRef}
    {scan' : Option ChunkRef} (honce : queue'.Nodup)
    (hqueue : ∀ q, q ∈ queue' ↔ if q = r then b = true ∧ st = .dirty else q ∈ queue)
    (hscan : ∀ q, scan' = some q ↔ if q = r then st = .scanning else scan = some q)
    (hserved : scan' ≠ none → b = true) : Ledger b (restate r st cs) queue' scan' where
  refs := by rw [map_fst_restate]; exact h.refs
  once := honce
  queued q := by
    rw [hqueue, mem_restate_iff hr]
    by_cases hq : q = r
    · simp [hq, eq_comm]
    · simp [hq, h.queued]
  scanned q := by
    rw [hscan, mem_restate_iff hr]
    by_cases hq : q = r
    · simp [hq, eq_comm]
    · simp [hq, h.scanned]
  scanServed := hserved

/-- The scan context once a chunk in state `x` has left that state. -/
def scanLeft (x : ChunkState) (scan : Option ChunkRef) : Option ChunkRef := if x = .scanning then none else scan

theorem Ledger.scanLeft_eq_some_iff (h : Ledger b cs queue scan) (hr : (r, x) ∈ cs) (hst : st ≠ .scanning)
    (q : ChunkRef) : scanLeft x scan = some q ↔ if q = r then st = .scanning else scan = some q := by
  have hx := h.scan_eq_iff hr
  unfold scanLeft
  by_cases hq : q = r
  · subst hq
    by_cases hs : x = .scanning <;> simp [hs, hst, hx]
  · by_cases hs : x = .scanning
    · simp [hs, hq, hx.2 hs, Ne.symm hq]
    · simp [hs, hq]

theorem Ledger.scanLeft_served (h : Ledger b cs queue scan) (hs : scanLeft x scan ≠ none) : b = true :=
  h.scanServed fun hn => hs (by simp [scanLeft, hn])

/-- R82, R84, R90: a chunk becomes DIRTY and joins a served queue at its tail. -/
theorem Ledger.toDirty (h : Ledger b cs queue scan) (hr : (r, x) ∈ cs) (hx : x ≠ .dirty) :
    Ledger b (restate r .dirty cs) (if b then queue ++ [r] else queue) (scanLeft x scan) := by
  have hnot : r ∉ queue := fun hq => hx ((h.mem_queue_iff hr).1 hq).2
  refine h.move hr ?_ (fun q => ?_) (h.scanLeft_eq_some_iff hr (by simp)) h.scanLeft_served
  · cases b
    · exact h.once
    · exact List.Nodup.append h.once (by simp) (by simpa using hnot)
  · by_cases hq : q = r
    · cases b <;> simp [hq, hnot]
    · cases b <;> simp [hq]

/-- R83, R86, R87: a chunk comes to rest in a state that neither the queue nor the scan context stands for. -/
theorem Ledger.toRest (h : Ledger b cs queue scan) (hr : (r, x) ∈ cs) (hd : st ≠ .dirty) (hs : st ≠ .scanning) :
    Ledger b (restate r st cs) (queue.filter (· ≠ r)) (scanLeft x scan) := by
  refine h.move hr (h.once.filter _) (fun q => ?_) (h.scanLeft_eq_some_iff hr hs) h.scanLeft_served
  by_cases hq : q = r <;> simp [hq, hd]

/-- A chunk that is not DIRTY has no place in the queue to leave. -/
theorem Ledger.filter_queue_eq (h : Ledger b cs queue scan) (hr : (r, x) ∈ cs) (hx : x ≠ .dirty) :
    queue.filter (· ≠ r) = queue := by
  refine List.filter_eq_self.2 fun q hq => ?_
  have : q ≠ r := by rintro rfl; exact hx ((h.mem_queue_iff hr).1 hq).2
  simpa using this

/-- R85, R104: the head of the queue becomes the SCANNING chunk. -/
theorem Ledger.toScanning (h : Ledger b cs (r :: queue) none) : Ledger b (restate r .scanning cs) queue (some r) := by
  obtain ⟨hb, hr⟩ := (h.queued r).1 List.mem_cons_self
  obtain ⟨hnot, honce⟩ := List.nodup_cons.1 h.once
  refine h.move hr honce (fun q => ?_) (fun q => ?_) fun _ => hb
  · by_cases hq : q = r
    · simp [hq, hnot]
    · simp [hq]
  · by_cases hq : q = r
    · simp [hq]
    · simp [hq, Ne.symm hq]

/-- R75, R91: on entry into a frozen state the SCANNING chunk becomes DIRTY, the queue and the scan context empty. -/
theorem Ledger.purged (h : Ledger b cs queue scan) : Ledger false
    (cs.map fun p => if p.2 = .scanning then (p.1, .dirty) else p) [] none where
  refs := by
    have hfst :
        (Prod.fst ∘ fun p : ChunkRef × ChunkState => if p.2 = .scanning then (p.1, .dirty) else p) = Prod.fst := by
      funext p; by_cases hp : p.2 = .scanning <;> simp [hp]
    rw [List.map_map, hfst]; exact h.refs
  once := List.nodup_nil
  queued q := by simp
  scanned q := by
    simp only [reduceCtorEq, List.mem_map, false_iff, not_exists, not_and]
    intro p _ hp
    split at hp
    · simp at hp
    · exact absurd (congrArg Prod.snd hp) (by assumption)
  scanServed hn := absurd rfl hn

/-- R92: with no chunk there is nothing to queue. -/
theorem ledger_nil (b : Bool) : Ledger b [] [] none := ⟨List.nodup_nil, List.nodup_nil, by simp, by simp, by simp⟩

/-- R93: a queue that begins to be served is filled with the DIRTY chunks. -/
theorem Ledger.filled (h : Ledger false cs queue scan) (b : Bool) : Ledger b cs
    (if b then (cs.filter fun p => p.2 = .dirty).map Prod.fst else queue) scan := by
  have hscan : scan = none := by
    by_contra hn; exact absurd (h.scanServed hn) (by simp)
  refine ⟨h.refs, ?_, fun q => ?_, h.scanned, fun hn => absurd hscan hn⟩
  · cases b
    · exact h.once
    · exact h.refs.sublist (List.filter_sublist.map Prod.fst)
  · cases b
    · simp [h.queued]
    · simp

/-- R62, R78: the UNCODED chunks of a component that had none join the others. -/
theorem Ledger.joined (h : Ledger b cs queue scan) {cs' new : List (ChunkRef × ChunkState)}
    (hperm : cs'.Perm (new ++ cs)) (hrefs : (new.map Prod.fst).Nodup)
    (happart : ∀ p ∈ new, ∀ q ∈ cs, p.1 ≠ q.1) (hnew : ∀ p ∈ new, p.2 = .uncoded) : Ledger b cs' queue scan where
  refs := by
    rw [(hperm.map _).nodup_iff, List.map_append]
    refine hrefs.append h.refs fun r hr hr' => ?_
    obtain ⟨p, hp, rfl⟩ := List.mem_map.1 hr
    obtain ⟨q, hq, hpq⟩ := List.mem_map.1 hr'
    exact happart p hp q hq hpq.symm
  once := h.once
  queued q := by
    have : (q, ChunkState.dirty) ∉ new := fun hq => by simpa using hnew _ hq
    rw [h.queued, hperm.mem_iff, List.mem_append, or_iff_right this]
  scanned q := by
    have : (q, ChunkState.scanning) ∉ new := fun hq => by simpa using hnew _ hq
    rw [h.scanned, hperm.mem_iff, List.mem_append, or_iff_right this]
  scanServed := h.scanServed

end Ledger

/-! ### The law by its ledger -/

/-- What the first and the second law rest on beside the ledger. -/
structure Standing (s : State) : Prop where
  starting : s.sup.part = .starting ↔ s.sup.step ≠ .finished
  held : s.sup.rstin = true → s.sup.part = .starting
  components : ∀ cs, s.stm.set = some cs → cs.compCount ≤ 8
  declared : ∀ p ∈ chunkStates s, (componentAt s p.1.comp).isSome = true

/-- The ledger of a state. -/
def InOrder (s : State) : Prop := Ledger (served s) (chunkStates s) s.ckt.queue (s.scan.map ScanContext.ref)

theorem mem_chunkStates_of_mem {s : State} {c : Chunk} (h : c ∈ s.ckt.chunks) : (c.ref, c.state) ∈ chunkStates s :=
  List.mem_map_of_mem h

theorem mem_chunkStates_iff {s : State} {p : ChunkRef × ChunkState} :
    p ∈ chunkStates s ↔ ∃ c ∈ s.ckt.chunks, c.ref = p.1 ∧ c.state = p.2 := by
  obtain ⟨r, x⟩ := p
  simp [chunkStates]

theorem map_fst_chunkStates (s : State) : (chunkStates s).map Prod.fst = s.ckt.chunks.map Chunk.ref := by
  rw [chunkStates, List.map_map]; rfl

theorem QueueScanLaw.inOrder {s : State} (h : QueueScanLaw s) : InOrder s where
  refs := by rw [map_fst_chunkStates]; exact h.refs
  once := h.queueOnce
  queued r := by
    rw [mem_chunkStates_iff]
    cases hs : served s with
    | true => simpa using h.queueServed hs r
    | false => simp [h.queueElse hs]
  scanned r := by
    rw [mem_chunkStates_iff]
    constructor
    · intro hr
      obtain ⟨x, hx, rfl⟩ := Option.map_eq_some_iff.1 hr
      obtain ⟨-, c, hc, href⟩ := h.scanned x hx
      exact ⟨c, hc, href, (h.scanning c hc).2 (by rw [hr, href])⟩
    · rintro ⟨c, hc, rfl, hx⟩
      exact (h.scanning c hc).1 hx
  scanServed hn := by
    obtain ⟨x, hx⟩ := Option.ne_none_iff_exists'.1 (mt Option.map_eq_none_iff.2 hn)
    exact (h.scanned x hx).1

theorem queueScanLaw_iff (s : State) : QueueScanLaw s ↔ Standing s ∧ InOrder s := by
  refine ⟨fun h => ⟨⟨h.starting, h.held, h.components, fun p hp => ?_⟩, h.inOrder⟩, fun ⟨hs, ho⟩ => ?_⟩
  · obtain ⟨c, hc, href, -⟩ := mem_chunkStates_iff.1 hp
    rw [← href]; exact h.declared c hc
  · exact {
      starting := hs.starting
      held := hs.held
      components := hs.components
      refs := by rw [← map_fst_chunkStates]; exact ho.refs
      declared := fun c hc => hs.declared _ (mem_chunkStates_of_mem hc)
      queueOnce := ho.once
      queueServed := fun hb r => by rw [ho.queued, mem_chunkStates_iff]; simp [hb]
      queueElse := fun hb => List.eq_nil_iff_forall_not_mem.2 fun r hr => by simp [ho.queued, hb] at hr
      scanning := fun c hc => (ho.scan_eq_iff (mem_chunkStates_of_mem hc)).symm
      scanned := fun x hx => by
        have hmem := (ho.scanned x.ref).1 (by rw [hx]; rfl)
        obtain ⟨c, hc, href, -⟩ := mem_chunkStates_iff.1 hmem
        exact ⟨ho.scanServed (by simp [hx]), c, hc, href⟩ }

end Sys2Proof.Machine
end

section
/-!
PROOF. What the operations of the tracker, the sets and the Boot Supervisor keep: a tracked state (the first and second
law, and the fourth law's chunks) stays tracked, and nothing that the fourth law says of the open transaction moves.
-/

namespace Sys2Proof.Machine

/-! ### Tracked states, and what an operation keeps -/

/-- The first and the second law, and every chunk GOOD while the set is READY or COMMITTING (R67 to R69). -/
structure Tracked (s : State) : Prop where
  standing : Standing s
  order : InOrder s
  good : s.stm.setState = .ready ∨ s.stm.setState = .committing → ∀ p ∈ chunkStates s, p.2 = .good

/-- `t` differs from `s` in nothing that makes a state tracked; in STARTING the start-up may stand at another step. -/
structure SameTracker (s t : State) : Prop where
  part : t.sup.part = s.sup.part
  step : t.sup.step = s.sup.step ∨ s.sup.part = .starting ∧ t.sup.step ≠ .finished
  rstin : t.sup.rstin = true → s.sup.rstin = true
  setState : t.stm.setState = s.stm.setState
  set : t.stm.set.map CurrentSet.target = s.stm.set.map CurrentSet.target
  compCount : t.stm.set.map CurrentSet.compCount = s.stm.set.map CurrentSet.compCount
  components : ∀ k, (componentAt s k).isSome = true → (componentAt t k).isSome = true
  chunks : chunkStates t = chunkStates s
  queue : t.ckt.queue = s.ckt.queue
  scan : t.scan.map ScanContext.ref = s.scan.map ScanContext.ref

/-- `y` differs from `x` in nothing that the fourth law says of a transaction record. -/
structure SameTxn (x y : Txn) : Prop where
  isOpen : y.isOpen = x.isOpen
  cls : y.cls = x.cls
  start : y.start = x.start
  disposition : y.disposition = x.disposition
  cut : y.cut = x.cut
  run : y.run ≠ none → x.run ≠ none

theorem SameTxn.of_eq {x y : Txn} (h : y = x) : SameTxn x y := by subst h; exact ⟨rfl, rfl, rfl, rfl, rfl, id⟩

/-- From `s` to `t` the open transaction, the settings and the part state stand still in what the fourth law says of
them, COMMITTING is not entered, a COMMITTING set keeps its target, and `t` is tracked. -/
structure Keeps (s t : State) : Prop where
  txn : SameTxn s.trc.txn t.trc.txn
  settings : t.settings = s.settings
  part : t.sup.part = s.sup.part
  committing : t.stm.setState = .committing →
    s.stm.setState = .committing ∧ t.stm.set.map CurrentSet.target = s.stm.set.map CurrentSet.target
  tracked : Tracked t

section

variable {s t u : State}

theorem Tracked.keeps_self (h : Tracked s) : Keeps s s := ⟨.of_eq rfl, rfl, rfl, fun hc => ⟨hc, rfl⟩, h⟩

theorem Keeps.trans (h : Keeps s t) (h' : Keeps t u) : Keeps s u where
  txn := {
    isOpen := h'.txn.isOpen.trans h.txn.isOpen
    cls := h'.txn.cls.trans h.txn.cls
    start := h'.txn.start.trans h.txn.start
    disposition := h'.txn.disposition.trans h.txn.disposition
    cut := h'.txn.cut.trans h.txn.cut
    run := fun hr => h.txn.run (h'.txn.run hr) }
  settings := h'.settings.trans h.settings
  part := h'.part.trans h.part
  committing hc := by
    obtain ⟨ht, hset⟩ := h'.committing hc
    exact ⟨(h.committing ht).1, hset.trans (h.committing ht).2⟩
  tracked := h'.tracked

/-- One operation after another. -/
theorem Keeps.bind (h : Keeps s t) (h' : Tracked t → Keeps t u) : Keeps s u := h.trans (h' h.tracked)

theorem Keeps.not_committing (h : Keeps s t) (hs : s.stm.setState ≠ .committing) : t.stm.setState ≠ .committing :=
  fun ht => hs (h.committing ht).1

theorem SameTracker.served_eq (f : SameTracker s t) : served t = served s := served_congr f.part f.setState

theorem SameTracker.tracked (f : SameTracker s t) (h : Tracked s) : Tracked t where
  standing := {
    starting := by
      rw [f.part]
      obtain hstep | ⟨hp, hstep⟩ := f.step
      · rw [hstep]; exact h.standing.starting
      · simp [hp, hstep]
    held := fun hr => f.part.trans (h.standing.held (f.rstin hr))
    components := fun cs hcs => by
      have hcount := f.compCount
      rw [hcs, Option.map_some] at hcount
      obtain ⟨cs', hcs', heq⟩ := Option.map_eq_some_iff.1 hcount.symm
      exact heq ▸ h.standing.components cs' hcs'
    declared := by
      rw [f.chunks]
      exact fun p hp => f.components _ (h.standing.declared p hp) }
  order := by
    unfold InOrder
    rw [f.served_eq, f.chunks, f.queue, f.scan]; exact h.order
  good := by rw [f.setState, f.chunks]; exact h.good

theorem SameTracker.keeps (f : SameTracker s t) (h : Tracked s) (htxn : SameTxn s.trc.txn t.trc.txn)
    (hset : t.settings = s.settings) : Keeps s t :=
  ⟨htxn, hset, f.part, fun hc => ⟨f.setState ▸ hc, f.set⟩, f.tracked h⟩

/-- Blocks that are left alone. -/
theorem SameTracker.of_blocks (hsup : t.sup = s.sup) (hstm : t.stm = s.stm) (hckt : t.ckt = s.ckt)
    (hscan : t.scan = s.scan) : SameTracker s t := by
  refine ⟨?_, .inl ?_, ?_, ?_, ?_, ?_, fun k hk => ?_, ?_, ?_, ?_⟩
  case refine_7 => simpa [componentAt, hstm] using hk
  all_goals simp [chunkStates, hsup, hstm, hckt, hscan]

/-- An operation that leaves the blocks of the tracker's laws alone. -/
theorem Tracked.keeps_of_blocks (h : Tracked s) (hsup : t.sup = s.sup) (hstm : t.stm = s.stm) (hckt : t.ckt = s.ckt)
    (hscan : t.scan = s.scan) (htxn : t.trc.txn = s.trc.txn) (hset : t.settings = s.settings) : Keeps s t :=
  (SameTracker.of_blocks hsup hstm hckt hscan).keeps h (.of_eq htxn) hset

theorem Tracked.keeps_post (h : Tracked s) (kind : EventKind) (detail : Word32) : Keeps s (post kind detail s) :=
  h.keeps_of_blocks rfl rfl rfl rfl rfl rfl

theorem Tracked.keeps_setBsv (h : Tracked s) (b : Bsv) : Keeps s (s.setBsv b) :=
  h.keeps_of_blocks rfl rfl rfl rfl rfl rfl

theorem Tracked.keeps_postWith (h : Tracked s) (kind : EventKind) (seq : Word16) (detail : Word32) :
    Keeps s (postWith kind seq detail s) :=
  h.keeps_of_blocks rfl rfl rfl rfl rfl rfl

theorem Tracked.keeps_setLgp (h : Tracked s) (l : Lgp) : Keeps s (s.setLgp l) :=
  h.keeps_of_blocks rfl rfl rfl rfl rfl rfl

theorem Tracked.keeps_elapse (h : Tracked s) (n : Nat) : Keeps s (elapse n s) :=
  h.keeps_of_blocks rfl rfl rfl rfl rfl rfl

theorem Tracked.keeps_elapseTo (h : Tracked s) (n : Nat) : Keeps s (elapseTo n s) := h.keeps_elapse _

/-- The start-up goes on to another of its steps. -/
theorem Tracked.keeps_startUpStep (h : Tracked s) (hp : s.sup.part = .starting) {x : Sup} (hpart : x.part = s.sup.part)
    (hrstin : x.rstin = true → s.sup.rstin = true) (hstep : x.step ≠ .finished) : Keeps s (s.setSup x) :=
  SameTracker.keeps ⟨hpart, .inr ⟨hp, hstep⟩, hrstin, rfl, rfl, rfl, fun _ => id, rfl, rfl, rfl⟩ h (.of_eq rfl) rfl

theorem Tracked.starting_of_step (h : Tracked s) (hs : s.sup.step ≠ .finished) : s.sup.part = .starting :=
  h.standing.starting.2 hs

/-- In STARTING the queue is not served and the Verify Engine is idle. -/
theorem served_eq_false_of_starting (hp : s.sup.part = .starting) : served s = false := by simp [served, hp]

/-! ### Moves of one chunk (R82 to R90) -/

theorem scanLeft_of_ne {x : ChunkState} (hx : x ≠ .scanning) (scan : Option ChunkRef) : scanLeft x scan = scan :=
  if_neg hx

@[simp] theorem chunkStates_moveChunk (r : ChunkRef) (st : ChunkState) (s : State) :
    chunkStates (moveChunk r st s) = restate r st (chunkStates s) := by
  simp only [chunkStates, restate, moveChunk_eq, List.map_map]
  refine List.map_congr_left fun c _ => ?_
  by_cases hc : c.ref = r <;> simp [hc]

theorem chunkStates_updateChunk (r : ChunkRef) {f : Chunk → Chunk} (href : ∀ c, (f c).ref = c.ref)
    (hstate : ∀ c, (f c).state = c.state) (s : State) : chunkStates (updateChunk r f s) = chunkStates s := by
  simp only [chunkStates, updateChunk_eq, List.map_map]
  refine List.map_congr_left fun c _ => ?_
  by_cases hc : c.ref = r <;> simp [hc, href, hstate]

@[simp] theorem chunkStates_enqueue (r : ChunkRef) (s : State) : chunkStates (enqueue r s) = chunkStates s := by
  rw [enqueue_eq]; rfl

@[simp] theorem chunkStates_dequeue (r : ChunkRef) (s : State) : chunkStates (dequeue r s) = chunkStates s := rfl

@[simp] theorem chunkStates_dropScan (s : State) : chunkStates (dropScan s) = chunkStates s := by rw [dropScan_eq]; rfl

@[simp] theorem chunkStates_reportLeftGood (s : State) : chunkStates (reportLeftGood s) = chunkStates s := by
  rw [reportLeftGood_eq]; rfl

/-- The move of one chunk leaves every other where it is. -/
theorem mem_restate_of_ne {cs : List (ChunkRef × ChunkState)} {p : ChunkRef × ChunkState} {r : ChunkRef} (hp : p ∈ cs)
    (hne : p.1 ≠ r) (st : ChunkState) : p ∈ restate r st cs :=
  List.mem_map.2 ⟨p, hp, if_neg hne⟩

/-- A change of a chunk's record that leaves its state alone. -/
theorem Tracked.keeps_updateChunk (h : Tracked s) (r : ChunkRef) {f : Chunk → Chunk} (href : ∀ c, (f c).ref = c.ref)
    (hstate : ∀ c, (f c).state = c.state) : Keeps s (updateChunk r f s) :=
  SameTracker.keeps ⟨rfl, .inl rfl, id, rfl, rfl, rfl, fun _ => id, chunkStates_updateChunk r href hstate s, rfl, rfl⟩
    h (.of_eq rfl) rfl

/-- The set state once a chunk has left state `x`: it stays, or where the chunk left GOOD a READY set returns to CLOSED
(R67), a COMMITTING one excepted. -/
def LeavesGood (x : ChunkState) (s t : State) : Prop :=
  (x ≠ .good ∧ t.stm.setState = s.stm.setState) ∨
    (s.stm.setState ≠ .committing ∧
      t.stm.setState = if s.stm.setState = .ready then .closed else s.stm.setState)

theorem LeavesGood.live_eq {x : ChunkState} (l : LeavesGood x s t) :
    liveState t.stm.setState = liveState s.stm.setState := by
  obtain ⟨-, hs⟩ | ⟨-, hs⟩ := l
  · rw [hs]
  · rw [hs]; split
    · next hr => rw [hr]; rfl
    · rfl

/-- One chunk of a tracked state takes a state: what is left to show is the ledger's part and the set state's. -/
theorem Tracked.keeps_move (h : Tracked s) {r : ChunkRef} {x st : ChunkState} (hr : (r, x) ∈ chunkStates s)
    (hblocks : t.sup = s.sup ∧ t.stm.set = s.stm.set ∧ t.stm.comps = s.stm.comps ∧ t.settings = s.settings ∧
      t.trc.txn = s.trc.txn)
    (hchunks : chunkStates t = restate r st (chunkStates s)) (hleaves : LeavesGood x s t)
    (horder : Ledger (served s) (restate r st (chunkStates s)) t.ckt.queue (t.scan.map ScanContext.ref)) :
    Keeps s t := by
  obtain ⟨hsup, hset, hcomps, hsettings, htxn⟩ := hblocks
  have hserved : served t = served s := by simp only [served, hsup, hleaves.live_eq]
  refine ⟨.of_eq htxn, hsettings, by rw [hsup], fun hc => ⟨?_, by rw [hset]⟩,
    ⟨?_, ?_, ?_, fun p hp => ?_⟩, ?_, fun hg => ?_⟩
  · obtain ⟨-, hs⟩ | ⟨hs, ht⟩ := hleaves
    · exact hs ▸ hc
    · rw [hc] at ht; split at ht
      · simp at ht
      · exact ht.symm
  · rw [hsup]; exact h.standing.starting
  · rw [hsup]; exact h.standing.held
  · rw [hset]; exact h.standing.components
  · have hmem : p.1 ∈ (chunkStates s).map Prod.fst := by
      rw [← map_fst_restate r st, ← hchunks]; exact List.mem_map_of_mem hp
    obtain ⟨q, hq, hqp⟩ := List.mem_map.1 hmem
    simpa [componentAt, hcomps, hqp] using h.standing.declared q hq
  · unfold InOrder; rw [hserved, hchunks]; exact horder
  · exfalso
    obtain ⟨hx, hs⟩ | ⟨hs, ht⟩ := hleaves
    · exact hx (h.good (hs ▸ hg) _ hr)
    · rw [ht] at hg; split at hg
      · simp at hg
      · simp_all

variable {r : ChunkRef} {x : ChunkState}

/-- R82, R84, R90: a chunk that was neither GOOD nor SCANNING becomes DIRTY. -/
theorem Tracked.keeps_toDirty (h : Tracked s) (hr : (r, x) ∈ chunkStates s)
    (hx : x ∉ [ChunkState.dirty, .scanning, .good]) : Keeps s (enqueue r (moveChunk r .dirty s)) := by
  simp only [List.mem_cons, List.not_mem_nil, or_false, not_or] at hx
  obtain ⟨hd, hs, hg⟩ := hx
  rw [enqueue_eq]
  refine h.keeps_move hr ⟨rfl, rfl, rfl, rfl, rfl⟩ (chunkStates_moveChunk r .dirty s) (.inl ⟨hg, rfl⟩) ?_
  have horder := Ledger.toDirty h.order hr hd
  rwa [scanLeft_of_ne hs] at horder

/-- R82, R90: a GOOD chunk becomes DIRTY, and a READY set CLOSED. -/
theorem Tracked.keeps_goodToDirty (h : Tracked s) (hr : (r, .good) ∈ chunkStates s)
    (hc : s.stm.setState ≠ .committing) : Keeps s (reportLeftGood (enqueue r (moveChunk r .dirty s))) := by
  rw [reportLeftGood_eq, enqueue_eq]
  exact h.keeps_move hr ⟨rfl, rfl, rfl, rfl, rfl⟩ (chunkStates_moveChunk r .dirty s) (.inr ⟨hc, rfl⟩)
    (Ledger.toDirty h.order hr (by simp))

/-- R82: the SCANNING chunk becomes DIRTY. -/
theorem Tracked.keeps_scanningToDirty (h : Tracked s) (hr : (r, .scanning) ∈ chunkStates s) :
    Keeps s (enqueue r (moveChunk r .dirty (dropScan s))) := by
  rw [enqueue_eq, dropScan_eq]
  refine h.keeps_move hr ⟨rfl, rfl, rfl, rfl, ?_⟩ (chunkStates_moveChunk r .dirty s) (.inl ⟨by simp, rfl⟩)
    (Ledger.toDirty h.order hr (by simp))
  simp only [moveChunk_eq]; split <;> rfl

/-- R83: a DIRTY chunk becomes ERASED and leaves the queue. -/
theorem Tracked.keeps_dirtyToErased (h : Tracked s) (hr : (r, .dirty) ∈ chunkStates s) :
    Keeps s (moveChunk r .erased (dequeue r s)) :=
  h.keeps_move hr ⟨rfl, rfl, rfl, rfl, rfl⟩ (chunkStates_moveChunk r .erased _) (.inl ⟨by simp, rfl⟩)
    (Ledger.toRest h.order hr (by simp) (by simp))

/-- R83: a BAD chunk becomes ERASED. -/
theorem Tracked.keeps_badToErased (h : Tracked s) (hr : (r, .bad) ∈ chunkStates s) :
    Keeps s (moveChunk r .erased s) := by
  refine h.keeps_move hr ⟨rfl, rfl, rfl, rfl, rfl⟩ (chunkStates_moveChunk r .erased _) (.inl ⟨by simp, rfl⟩) ?_
  have horder := Ledger.toRest (st := .erased) h.order hr (by simp) (by simp)
  rwa [Ledger.filter_queue_eq h.order hr (by simp)] at horder

/-- R83: a GOOD chunk becomes ERASED, and a READY set CLOSED. -/
theorem Tracked.keeps_goodToErased (h : Tracked s) (hr : (r, .good) ∈ chunkStates s)
    (hc : s.stm.setState ≠ .committing) : Keeps s (reportLeftGood (moveChunk r .erased s)) := by
  rw [reportLeftGood_eq]
  refine h.keeps_move hr ⟨rfl, rfl, rfl, rfl, rfl⟩ (chunkStates_moveChunk r .erased _) (.inr ⟨hc, rfl⟩) ?_
  have horder := Ledger.toRest (st := .erased) h.order hr (by simp) (by simp)
  rwa [Ledger.filter_queue_eq h.order hr (by simp)] at horder

/-- R83, R86, R87: with its context dropped the SCANNING chunk comes to rest. -/
theorem Tracked.keeps_scanningToRest (h : Tracked s) (hr : (r, .scanning) ∈ chunkStates s) {st : ChunkState}
    (hd : st ≠ .dirty) (hs : st ≠ .scanning) : Keeps s (moveChunk r st (dropScan s)) := by
  rw [dropScan_eq]
  refine h.keeps_move hr ⟨rfl, rfl, rfl, rfl, ?_⟩ (chunkStates_moveChunk r st s) (.inl ⟨by simp, rfl⟩) ?_
  · simp only [moveChunk_eq]; split <;> rfl
  · have horder := Ledger.toRest (st := st) h.order hr hd hs
    rwa [Ledger.filter_queue_eq h.order hr (by simp)] at horder

/-! ### Notices, codes and rescans (R82 to R84, R90) -/

variable {c : Chunk} {p : ChunkRef × ChunkState}

/-- R82: the written flag alone. -/
theorem chunkStates_written (r : ChunkRef) (s : State) :
    chunkStates (updateChunk r (fun c => { c with written := true }) s) = chunkStates s :=
  chunkStates_updateChunk r (f := fun c => { c with written := true }) (fun _ => rfl) (fun _ => rfl) s

theorem Tracked.keeps_programChunk (h : Tracked s) (hc : s.stm.setState ≠ .committing)
    (hm : (c.ref, c.state) ∈ chunkStates s) : Keeps s (programChunk c s) := by
  have hwritten : Keeps s (updateChunk c.ref (fun c => { c with written := true }) s) :=
    h.keeps_updateChunk _ (fun _ => rfl) fun _ => rfl
  rw [← chunkStates_written c.ref] at hm
  rw [programChunk_eq]
  refine hwritten.bind fun h => ?_
  cases hx : c.state <;> rw [hx] at hm
  case uncoded | dirty => exact h.keeps_self
  case erased | bad => exact h.keeps_toDirty hm (by simp)
  case scanning => exact h.keeps_scanningToDirty hm
  case good => exact h.keeps_goodToDirty hm hc

theorem programChunk_elsewhere (hp : p ∈ chunkStates s) (hne : p.1 ≠ c.ref) : p ∈ chunkStates (programChunk c s) := by
  have hmove (st : ChunkState) := mem_restate_of_ne hp hne st
  rw [programChunk_eq]
  cases c.state <;> simp only [chunkStates_reportLeftGood, chunkStates_enqueue, chunkStates_moveChunk,
    chunkStates_dropScan, chunkStates_written, hp, hmove]

theorem Tracked.keeps_eraseChunk (h : Tracked s) (hc : s.stm.setState ≠ .committing)
    (hm : (c.ref, c.state) ∈ chunkStates s) : Keeps s (eraseChunk c s) := by
  unfold eraseChunk
  cases hx : c.state <;> rw [hx] at hm
  case uncoded | erased => exact h.keeps_self
  case dirty => exact h.keeps_dirtyToErased hm
  case scanning => exact h.keeps_scanningToRest hm (by simp) (by simp)
  case good => exact h.keeps_goodToErased hm hc
  case bad => exact h.keeps_badToErased hm

theorem eraseChunk_elsewhere (hp : p ∈ chunkStates s) (hne : p.1 ≠ c.ref) : p ∈ chunkStates (eraseChunk c s) := by
  have hmove (st : ChunkState) := mem_restate_of_ne hp hne st
  unfold eraseChunk
  cases c.state <;> simp only [chunkStates_reportLeftGood, chunkStates_dequeue, chunkStates_moveChunk,
    chunkStates_dropScan, hp, hmove]

theorem Tracked.keeps_rescanChunk (h : Tracked s) (hc : s.stm.setState ≠ .committing)
    (hm : (c.ref, c.state) ∈ chunkStates s) : Keeps s (rescanChunk c s) := by
  unfold rescanChunk
  cases hx : c.state <;> rw [hx] at hm
  case uncoded | dirty | scanning => exact h.keeps_self
  case erased | bad => exact h.keeps_toDirty hm (by simp)
  case good => exact h.keeps_goodToDirty hm hc

theorem rescanChunk_elsewhere (hp : p ∈ chunkStates s) (hne : p.1 ≠ c.ref) : p ∈ chunkStates (rescanChunk c s) := by
  have hmove (st : ChunkState) := mem_restate_of_ne hp hne st
  unfold rescanChunk
  cases c.state <;> simp only [chunkStates_reportLeftGood, chunkStates_enqueue, chunkStates_moveChunk, hp, hmove]

/-- R84: an expected code makes an UNCODED chunk DIRTY. -/
theorem Tracked.keeps_codeChunk (h : Tracked s) (code : Word32) (hm : (c.ref, c.state) ∈ chunkStates s) :
    Keeps s (codeChunk c code s) := by
  have hcoded : Keeps s (updateChunk c.ref (fun c => { c with expected := some code }) s) :=
    h.keeps_updateChunk _ (fun _ => rfl) fun _ => rfl
  rw [← chunkStates_updateChunk c.ref (f := fun c => { c with expected := some code }) (fun _ => rfl)
    fun _ => rfl] at hm
  unfold codeChunk
  refine hcoded.bind fun h => ?_
  cases hx : c.state <;> rw [hx] at hm
  case uncoded => exact h.keeps_toDirty hm (by simp)
  all_goals exact h.keeps_self

/-- An operation on one chunk, by its reference and its state: out of COMMITTING it keeps the state tracked, and it
leaves the other chunks where they are. -/
structure ChunkOp (f : Chunk → State → State) : Prop where
  keeps : ∀ {c : Chunk} {t : State}, Tracked t → t.stm.setState ≠ .committing → (c.ref, c.state) ∈ chunkStates t →
    Keeps t (f c t)
  elsewhere : ∀ {c : Chunk} {t : State} {p : ChunkRef × ChunkState}, p ∈ chunkStates t → p.1 ≠ c.ref →
    p ∈ chunkStates (f c t)

theorem chunkOp_programChunk : ChunkOp programChunk := ⟨Tracked.keeps_programChunk, programChunk_elsewhere⟩

theorem chunkOp_eraseChunk : ChunkOp eraseChunk := ⟨Tracked.keeps_eraseChunk, eraseChunk_elsewhere⟩

theorem chunkOp_rescanChunk : ChunkOp rescanChunk := ⟨Tracked.keeps_rescanChunk, rescanChunk_elsewhere⟩

/-- Such an operation may be done on chunks of the state in turn, on each once. -/
theorem ChunkOp.keeps_forEachChunk {f : Chunk → State → State} (op : ChunkOp f) {cs : List Chunk} {s : State}
    (h : Tracked s) (hc : s.stm.setState ≠ .committing) (hm : ∀ c ∈ cs, (c.ref, c.state) ∈ chunkStates s)
    (hnodup : (cs.map Chunk.ref).Nodup) : Keeps s (forEachChunk f cs s) := by
  induction cs generalizing s with
  | nil => exact h.keeps_self
  | cons c cs ih =>
    obtain ⟨hnot, hnodup⟩ := List.nodup_cons.1 hnodup
    have hfirst := op.keeps h hc (hm c List.mem_cons_self)
    rw [forEachChunk_cons]
    refine hfirst.trans (ih hfirst.tracked (hfirst.not_committing hc) (fun d hd => ?_) hnodup)
    exact op.elsewhere (hm d (List.mem_cons_of_mem c hd)) fun heq => hnot (heq ▸ List.mem_map_of_mem hd)

/-- The chunks that a notice or a request picks out are chunks of the state, each once. -/
theorem ChunkOp.keeps_forEach_filter {f : Chunk → State → State} (op : ChunkOp f) (h : Tracked s)
    (hc : s.stm.setState ≠ .committing) (pick : Chunk → Bool) :
    Keeps s (forEachChunk f (s.ckt.chunks.filter pick) s) := by
  refine op.keeps_forEachChunk h hc (fun c hc => mem_chunkStates_of_mem (List.mem_filter.1 hc).1) ?_
  have hrefs := h.order.refs
  rw [map_fst_chunkStates] at hrefs
  exact hrefs.sublist (List.filter_sublist.map Chunk.ref)

/-- R82: a program notice; a COMMITTING set is told of no write into its slot. -/
theorem Tracked.keeps_noticeProgram (h : Tracked s) {page : Nat}
    (hc : s.stm.setState = .committing → takesGranule s (page / 4096) = false) : Keeps s (noticeProgram page s) := by
  unfold noticeProgram
  split
  next hlive =>
    obtain ⟨-, htakes⟩ := Bool.and_eq_true_iff.1 hlive
    exact chunkOp_programChunk.keeps_forEach_filter h (fun hcom => by simp [hc hcom] at htakes) _
  next => exact h.keeps_self

/-- R83: an erase notice. -/
theorem Tracked.keeps_noticeErase (h : Tracked s) {gs : List Nat}
    (hc : s.stm.setState = .committing → ∀ g ∈ gs, takesGranule s g = false) : Keeps s (noticeErase gs s) := by
  unfold noticeErase
  split
  next =>
    by_cases hcom : s.stm.setState = .committing
    · have hnone : gs.filter (takesGranule s) = [] := List.filter_eq_nil_iff.2 fun g hg => by simp [hc hcom g hg]
      simpa [hnone, forEachChunk] using h.keeps_self
    · exact chunkOp_eraseChunk.keeps_forEach_filter h hcom _
  next => exact h.keeps_self

/-- R90: a rescan request, which COMMITTING refuses. -/
theorem Tracked.keeps_rescan (h : Tracked s) (hc : s.stm.setState ≠ .committing) (comp : Option Nat) :
    Keeps s (rescan comp s) := by
  unfold rescan
  split
  next => exact chunkOp_rescanChunk.keeps_forEach_filter h hc _
  next => exact h.keeps_self

end

end Sys2Proof.Machine
end

section
/-!
PROOF. What the Set Manager and the Boot Supervisor keep (spec 04, 07): every entry into a set state, every record but
COMMIT, every outcome of a journal write.
-/

namespace Sys2Proof.Machine

section

variable {s t : State}

/-! ### Entries into a set state (R58, R67, R75) -/

/-- The set takes a state in which the queue is served as before; into READY it goes with every chunk GOOD. -/
theorem Tracked.keeps_setSetState_of_served (h : Tracked s) {x : SetState}
    (hserved : served (setSetState x s) = served s) (hx : x ≠ .committing)
    (hgood : x = .ready → ∀ p ∈ chunkStates s, p.2 = .good) : Keeps s (setSetState x s) := by
  refine ⟨.of_eq rfl, rfl, rfl, fun hc => absurd hc hx, ⟨⟨h.standing.starting, h.standing.held, h.standing.components,
    h.standing.declared⟩, ?_, fun hr => hgood (hr.resolve_right hx)⟩⟩
  unfold InOrder
  rw [hserved]; exact h.order

theorem Tracked.keeps_setSetState (h : Tracked s) {x : SetState} (hlive : liveState x = liveState s.stm.setState)
    (hx : x ≠ .committing) (hgood : x = .ready → ∀ p ∈ chunkStates s, p.2 = .good) : Keeps s (setSetState x s) :=
  h.keeps_setSetState_of_served (by simp [served, setSetState_eq, hlive]) hx hgood

theorem Tracked.keeps_enterReady (h : Tracked s) (hlive : liveState s.stm.setState = true)
    (hgood : ∀ p ∈ chunkStates s, p.2 = .good) : Keeps s (enterReady s) :=
  (h.keeps_setSetState (x := .ready) hlive.symm (by simp) fun _ => hgood).bind fun h => h.keeps_post _ _

theorem chunkStates_purge (s : State) : chunkStates (purge s) =
    (chunkStates s).map fun p => if p.2 = .scanning then (p.1, .dirty) else p := by
  simp only [chunkStates, purge_eq, List.map_map]
  refine List.map_congr_left fun c _ => ?_
  by_cases hc : c.state = .scanning <;> simp [hc]

/-- R75: the entry into ABANDONED, REJECTED or REVERTED, from any state. -/
theorem Tracked.keeps_enterFrozen (h : Tracked s) {x : SetState} (hx : x ∈ [SetState.abandoned, .rejected, .reverted]) :
    Keeps s (enterFrozen x s) := by
  have hstate : (enterFrozen x s).stm.setState = x := by rw [enterFrozen_eq]
  have hchunks : chunkStates (enterFrozen x s) = _ := chunkStates_purge (setSetState x s)
  have hfrozen : served (enterFrozen x s) = false ∧ x ≠ .ready ∧ x ≠ .committing := by
    simp only [List.mem_cons, List.not_mem_nil, or_false] at hx
    obtain rfl | rfl | rfl := hx <;> simp [served, hstate, liveState]
  obtain ⟨hserved, hready, hcommitting⟩ := hfrozen
  have horder : InOrder (enterFrozen x s) := by
    unfold InOrder
    rw [hserved, hchunks, enterFrozen_eq]; exact Ledger.purged h.order
  have hdeclared : ∀ p ∈ chunkStates (enterFrozen x s), (componentAt (enterFrozen x s) p.1.comp).isSome = true := by
    rw [hchunks]
    intro p hp
    obtain ⟨q, hq, rfl⟩ := List.mem_map.1 hp
    have hq : (componentAt (enterFrozen x s) q.1.comp).isSome = true := by
      rw [enterFrozen_eq]; exact h.standing.declared q hq
    split <;> exact hq
  rw [enterFrozen_eq] at *
  refine ⟨.of_eq ?_, rfl, rfl, fun hc => absurd hc hcommitting,
    ⟨⟨h.standing.starting, h.standing.held, h.standing.components, hdeclared⟩, horder, ?_⟩⟩
  · simp only []; split <;> rfl
  · rintro (hr | hc)
    · exact absurd hr hready
    · exact absurd hc hcommitting

/-- R58, R75: a set state with no chunk record; a set it comes with has at most 8 components. -/
theorem Tracked.keeps_discarded (h : Tracked s) {m : Stm} (hset : ∀ cs, m.set = some cs → cs.compCount ≤ 8)
    (hm : m.setState ≠ .committing) : Keeps s ((discardChunks s).setStm m) := by
  rw [discardChunks_eq]
  refine ⟨.of_eq ?_, rfl, rfl, fun hc => absurd hc hm, ⟨⟨h.standing.starting, h.standing.held, hset, fun p hp => ?_⟩,
    ledger_nil _, fun _ p hp => ?_⟩⟩
  · simp only [State.setStm]; split <;> rfl
  all_goals simp [chunkStates] at hp

theorem Tracked.keeps_acceptOpen (h : Tracked s) {cs : CurrentSet} (hcs : cs.compCount ≤ 8) (r : Record) :
    Keeps s (acceptOpen cs r s) :=
  h.keeps_discarded (fun _ he => Option.some.inj he ▸ hcs) (by simp)

theorem Tracked.keeps_enterIdle (h : Tracked s) : Keeps s (enterIdle s) :=
  h.keeps_discarded (fun _ he => by simp [Stm.start] at he) (by simp [Stm.start])

/-! ### Records (R56 to R73) -/

theorem Tracked.keeps_refuse (h : Tracked s) (kind : RecordKind) (reason : RefuseReason) (r : Record) :
    Keeps s (refuse kind reason r s) := h.keeps_postWith _ _ _

theorem Tracked.keeps_setStm (h : Tracked s) {m : Stm} (hstate : m.setState = s.stm.setState) (hset : m.set = s.stm.set)
    (hcomps : m.comps = s.stm.comps) : Keeps s (s.setStm m) :=
  SameTracker.keeps ⟨rfl, .inl rfl, id, hstate, by simp [hset], by simp [hset],
    fun k hk => by simpa [componentAt, hcomps] using hk, rfl, rfl, rfl⟩ h (.of_eq rfl) rfl

theorem Tracked.keeps_reject (h : Tracked s) (reason : RejectReason) (k : Byte) : Keeps s (reject reason k s) :=
  (h.keeps_setStm (m := { s.stm with reason := some reason }) rfl rfl rfl).bind fun h =>
    (h.keeps_enterFrozen (by simp)).bind fun h => h.keeps_post _ _

theorem Tracked.keeps_rejectNamed (h : Tracked s) (reason : RejectReason) (r : Record) :
    Keeps s (rejectNamed reason r s) := by
  rw [rejectNamed_eq]
  split
  next => exact h.keeps_reject _ _
  next =>
    have hdrawn : Keeps s (s.setFreeDraws (s.freeDraws + 1)) := h.keeps_of_blocks rfl rfl rfl rfl rfl rfl
    exact hdrawn.bind fun h => h.keeps_reject _ _

theorem Tracked.keeps_countRecord (h : Tracked s) (r : Record) : Keeps s (countRecord r s) := h.keeps_setStm rfl rfl rfl

theorem compCount_le_of_openFields {r : Record} {cs : CurrentSet} (h : openFields r = some cs) : cs.compCount ≤ 8 := by
  obtain ⟨n, -, hn⟩ := Option.bind_eq_some_iff.1 h
  split at hn
  next hfields => obtain rfl := Option.some.inj hn; exact hfields.2.1
  next => simp at hn

/-- A verdict that passes a check has the rest of the checks still to pass. -/
theorem of_check {ε α : Type} {p : Prop} [Decidable p] {e : ε} {v : Except ε α} {x : α}
    (h : (if p then .error e else v) = .ok x) : ¬ p ∧ v = .ok x := by
  by_cases hp : p
  · simp [hp] at h
  · exact ⟨hp, by simpa [hp] using h⟩

theorem compCount_le_of_openVerdict {r : Record} {cs : CurrentSet} (h : openVerdict r s = .ok cs) :
    cs.compCount ≤ 8 := by
  unfold openVerdict at h
  obtain ⟨-, h⟩ := of_check h
  obtain ⟨-, h⟩ := of_check h
  obtain ⟨-, h⟩ := of_check h
  split at h
  next => simp at h
  next x hfields =>
    obtain ⟨-, h⟩ := of_check h
    obtain ⟨-, h⟩ := of_check h
    exact Except.ok.inj h ▸ compCount_le_of_openFields hfields

theorem compCount_le_of_openRebuildVerdict {r : Record} {cs : CurrentSet} (h : openRebuildVerdict r s = .ok cs) :
    cs.compCount ≤ 8 := by
  unfold openRebuildVerdict at h
  obtain ⟨-, h⟩ := of_check h
  split at h
  next => simp at h
  next x hfields =>
    obtain ⟨-, h⟩ := of_check h
    have hcount : x.compCount = cs.compCount := by
      split at h
      next => rw [← Except.ok.inj h]
      next =>
        obtain ⟨-, h⟩ := of_check h
        obtain ⟨-, h⟩ := of_check h
        obtain ⟨-, h⟩ := of_check h
        obtain ⟨-, h⟩ := of_check h
        rw [← Except.ok.inj h]
    exact hcount ▸ compCount_le_of_openFields hfields

theorem Tracked.keeps_takeOpen (h : Tracked s) (r : Record) : Keeps s (takeOpen r s) := by
  unfold takeOpen
  split
  next => exact h.keeps_refuse _ _ _
  next cs hv => exact h.keeps_acceptOpen (compCount_le_of_openVerdict hv) r

theorem Tracked.keeps_rebuildOpen (h : Tracked s) (r : Record) : Keeps s (rebuildOpen r s) := by
  unfold rebuildOpen
  split
  next => exact h.keeps_refuse _ _ _
  next cs hv => exact h.keeps_acceptOpen (compCount_le_of_openRebuildVerdict hv) r

/-- R59: what passes the gate is the set, RECEIVING. -/
theorem receiving_of_gate {r : Record} {cs : CurrentSet} (h : gate r s = .ok cs) :
    s.stm.set = some cs ∧ s.stm.setState = .receiving := by
  unfold gate at h
  split at h
  next => simp at h
  next x hset =>
    obtain ⟨hstate, h⟩ := of_check h
    obtain ⟨-, h⟩ := of_check h
    exact ⟨Except.ok.inj h ▸ hset, of_not_not hstate⟩

/-- R61: a COMPONENT that passes its checks names an index below the component count that is not yet declared. -/
theorem index_of_componentVerdict {cs : CurrentSet} {r : Record} {k : Nat} {c : Component}
    (h : componentVerdict cs r s = .ok (k, c)) : k < cs.compCount ∧ componentAt s k = none := by
  unfold componentVerdict at h
  obtain ⟨-, h⟩ := of_check h
  obtain ⟨hbelow, h⟩ := of_check h
  obtain ⟨hfree, h⟩ := of_check h
  obtain ⟨-, h⟩ := of_check h
  obtain ⟨-, h⟩ := of_check h
  obtain ⟨-, h⟩ := of_check h
  obtain ⟨-, h⟩ := of_check h
  obtain ⟨-, h⟩ := of_check h
  obtain ⟨-, h⟩ := of_check h
  obtain ⟨rfl, -⟩ := Prod.mk.inj (Except.ok.inj h)
  exact ⟨not_le.1 hbelow, Option.not_isSome_iff_eq_none.1 hfree⟩

/-- R62: the chunk records before and after a component joins, in set order. -/
theorem chunkStates_createChunks (k n : Nat) (s : State) : chunkStates (createChunks k n s) =
    ((chunkStates s).filter fun p => p.1.comp < k) ++
      ((List.range n).map fun i => (⟨k, i⟩, .uncoded)) ++ (chunkStates s).filter fun p => k < p.1.comp := by
  simp only [chunkStates, createChunks_eq, newChunks, List.map_append, List.map_map, List.filter_map]
  rfl

/-- R61, R62: a component that the set has not yet declared, and its UNCODED chunks. -/
theorem Tracked.keeps_declare (h : Tracked s) {k : Nat} (hk : k < 8) (hfree : componentAt s k = none)
    (hs : s.stm.setState = .receiving) (c : Component) (n : Nat) :
    Keeps s (createChunks k n (putComponent k c s)) := by
  have happart : ∀ p ∈ chunkStates s, p.1.comp ≠ k := fun p hp hpk => by
    simpa [hpk, hfree] using h.standing.declared p hp
  have hchunks := chunkStates_createChunks k n (putComponent k c s)
  have hstates : chunkStates (putComponent k c s) = chunkStates s := rfl
  rw [hstates] at hchunks
  have hsplit : ((chunkStates s).filter fun p => k < p.1.comp) =
      (chunkStates s).filter fun p => !decide (p.1.comp < k) :=
    List.filter_congr fun p hp => by have := happart p hp; rw [← decide_not, decide_eq_decide]; omega
  set new := (List.range n).map fun i => ((⟨k, i⟩, .uncoded) : ChunkRef × ChunkState) with hnew
  have hperm : (chunkStates (createChunks k n (putComponent k c s))).Perm (new ++ chunkStates s) := by
    rw [hchunks, hsplit]
    refine (List.perm_append_comm.append_right _).trans ?_
    rw [List.append_assoc]
    exact (List.filter_append_perm _ _).append_left new
  have hcomp (p) (hp : p ∈ new) : p.1.comp = k ∧ p.2 = .uncoded := by
    obtain ⟨i, -, rfl⟩ := List.mem_map.1 hp; exact ⟨rfl, rfl⟩
  refine ⟨.of_eq rfl, rfl, rfl, fun hc => by simp [createChunks_eq, putComponent_eq, hs] at hc,
    ⟨h.standing.starting, h.standing.held, h.standing.components, fun p hp => ?_⟩, ?_, fun hr => ?_⟩
  · have hat : componentAt (createChunks k n (putComponent k c s)) p.1.comp = _ :=
      componentAt_putComponent k p.1.comp c s hk
    rw [hat]
    obtain hp | hp := List.mem_append.1 (hperm.mem_iff.1 hp)
    · simp [(hcomp p hp).1]
    · simpa [happart p hp] using h.standing.declared p hp
  · refine Ledger.joined h.order hperm ?_ (fun p hp q hq he => ?_) fun p hp => (hcomp p hp).2
    · simp [hnew, List.map_map, Function.comp_def, List.nodup_range.map_on]
    · exact happart q hq (he ▸ (hcomp p hp).1)
  · simp [createChunks_eq, putComponent_eq, hs] at hr

theorem Tracked.keeps_takeComponent (h : Tracked s) (r : Record) : Keeps s (takeComponent r s) := by
  unfold takeComponent
  split
  next => exact h.keeps_refuse _ _ _
  next cs hgate =>
    obtain ⟨hset, hstate⟩ := receiving_of_gate hgate
    split
    next => exact h.keeps_rejectNamed _ _
    next k c hv =>
      obtain ⟨hbelow, hfree⟩ := index_of_componentVerdict hv
      have hk := hbelow.trans_le (h.standing.components cs hset)
      exact (h.keeps_declare hk hfree hstate c _).bind fun h => h.keeps_countRecord r

/-! ### CODES (R63, R64) -/

theorem Tracked.keeps_storeCode (h : Tracked s) (p : ChunkRef × Word32) : Keeps s (storeCode p s) := by
  unfold storeCode
  split
  next c hfind =>
    split
    next => exact h.keeps_codeChunk _ (mem_chunkStates_of_mem (List.mem_of_find?_eq_some hfind))
    next => exact h.keeps_self
  next => exact h.keeps_self

theorem Tracked.keeps_storeCodes (h : Tracked s) (run : List (ChunkRef × Word32)) :
    Keeps s (run.foldl (fun s p => storeCode p s) s) := by
  induction run generalizing s with
  | nil => exact h.keeps_self
  | cons p run ih => exact (h.keeps_storeCode p).bind ih

/-- A declared component's record is written again. -/
theorem Tracked.keeps_putComponent (h : Tracked s) (k : Nat) (c : Component) : Keeps s (putComponent k c s) := by
  refine SameTracker.keeps ⟨rfl, .inl rfl, id, rfl, rfl, rfl, fun j hj => ?_, rfl, rfl, rfl⟩ h (.of_eq rfl) rfl
  simp only [componentAt, putComponent_eq, Vector.toList_setIfInBounds, List.getD_eq_getElem?_getD,
    List.getElem?_set] at hj ⊢
  by_cases hk : k = j
  · subst hk
    by_cases hb : k < 8
    · simp [hb]
    · simp [hb] at hj
  · simpa [hk] using hj

theorem Tracked.keeps_acceptCodes (h : Tracked s) (k : Nat) (c : Component) (run : List (ChunkRef × Word32))
    (r : Record) : Keeps s (acceptCodes k c run r s) := by
  have hstored (c' : Component) : Keeps s (putComponent k c' (run.foldl (fun s p => storeCode p s) s)) :=
    (h.keeps_storeCodes run).bind fun h => h.keeps_putComponent k c'
  unfold acceptCodes
  dsimp only
  split
  next =>
    split
    next => exact (hstored _).bind fun h => (h.keeps_putComponent k _).bind fun h => h.keeps_countRecord r
    next => exact (hstored _).bind fun h => h.keeps_rejectNamed _ _
  next => exact (hstored _).bind fun h => h.keeps_countRecord r

theorem Tracked.keeps_takeCodes (h : Tracked s) (r : Record) : Keeps s (takeCodes r s) := by
  unfold takeCodes
  split
  next => exact h.keeps_refuse _ _ _
  next =>
    split
    next => exact h.keeps_rejectNamed _ _
    next => exact h.keeps_acceptCodes _ _ _ _

/-! ### CLOSE, ABANDON, CLEAR, RESCAN (R66, R71 to R73) -/

/-- R89: the answer from the counts. -/
theorem forall_good_of_allGood (hs : allGood s = true) : ∀ p ∈ chunkStates s, p.2 = .good := by
  have hcount : s.ckt.chunks.countP (fun c => c.state = .good) = s.ckt.chunks.length := by
    simpa [allGood, chunkCount] using hs
  intro p hp
  obtain ⟨c, hc, -, hstate⟩ := mem_chunkStates_iff.1 hp
  rw [← hstate]
  simpa using List.countP_eq_length.1 hcount c hc

theorem Tracked.keeps_takeClose (h : Tracked s) (r : Record) : Keeps s (takeClose r s) := by
  unfold takeClose
  split
  next => exact h.keeps_refuse _ _ _
  next hgate =>
    have hlive : liveState s.stm.setState = true := by rw [(receiving_of_gate hgate).2]; rfl
    split
    next => exact h.keeps_reject _ _
    next =>
      split
      next hgood => exact h.keeps_enterReady hlive (forall_good_of_allGood hgood)
      next => exact h.keeps_setSetState hlive.symm (by simp) (by simp)

theorem Tracked.keeps_abandonSet (h : Tracked s) (r : Record) : Keeps s (abandonSet r s) := by
  unfold abandonSet
  split
  next => exact h.keeps_refuse _ _ _
  next =>
    split
    next => exact h.keeps_refuse _ _ _
    next =>
      split
      next => exact h.keeps_enterFrozen (by simp)
      next => exact h.keeps_refuse _ _ _

theorem Tracked.keeps_rebuildAbandon (h : Tracked s) (r : Record) : Keeps s (rebuildAbandon r s) := by
  unfold rebuildAbandon
  split
  next => exact h.keeps_refuse _ _ _
  next =>
    split
    next => exact h.keeps_self
    next => exact h.keeps_abandonSet r

theorem Tracked.keeps_takeClear (h : Tracked s) (r : Record) : Keeps s (takeClear r s) := by
  unfold takeClear
  split
  next => exact h.keeps_refuse _ _ _
  next =>
    have hcleared : Keeps s (if (byteAt r.body 0).getLsbD 0 then clearEvents s else s) := by
      split
      · exact h.keeps_of_blocks rfl rfl rfl rfl rfl rfl
      · exact h.keeps_self
    dsimp only
    split
    next => exact hcleared.bind fun h => h.keeps_setBsv _
    next => exact hcleared

theorem not_committing_of_rescanVerdict {r : Record} {k : Option Nat} (h : rescanVerdict r s = .ok k) :
    s.stm.setState ≠ .committing := by
  unfold rescanVerdict at h
  obtain ⟨-, h⟩ := of_check h
  split at h
  next => simp at h
  next =>
    obtain ⟨-, h⟩ := of_check h
    obtain ⟨hstate, -⟩ := of_check h
    intro hc
    simp [hc, rescannable] at hstate

theorem Tracked.keeps_takeRescan (h : Tracked s) (r : Record) : Keeps s (takeRescan r s) := by
  unfold takeRescan
  split
  next => exact h.keeps_refuse _ _ _
  next hv => exact h.keeps_rescan (not_committing_of_rescanVerdict hv) _

end

end Sys2Proof.Machine
end

section
/-!
PROOF. What the Boot Supervisor keeps (spec 07): reverts, trial starts, and the outcomes of journal writes with the set
states that follow.
-/

namespace Sys2Proof.Machine

section

variable {s : State}

/-! ### Journal writes, MRST and the timer (R117 to R121, R126) -/

/-- The Boot Supervisor, the event list and the clock are in none of the tracker's laws. -/
theorem Tracked.keeps_boot (h : Tracked s) (now : Nat) (b : Bsv) (r : Rpu) :
    Keeps s { s with now := now, bsv := b, rpu := r } :=
  h.keeps_of_blocks rfl rfl rfl rfl rfl rfl

theorem Tracked.keeps_failWrite (h : Tracked s) (kind : EntryKind) (step : FailStep) :
    Keeps s (failWrite kind step s) := h.keeps_boot _ _ _

/-- R131, R142: a start-up goes on to the rebuild. -/
theorem Tracked.keeps_toRebuild (h : Tracked s) (hp : s.sup.part = .starting) (mark : Bool) :
    Keeps s (s.setSup { s.sup with markDegraded := mark, step := .rebuild }) :=
  h.keeps_startUpStep hp rfl id (by simp)

/-! ### Reverts (R129 to R131) -/

theorem Tracked.keeps_revertFails (h : Tracked s) (step : FailStep) : Keeps s (revertFails step s) := by
  unfold revertFails
  dsimp only
  split
  next hp =>
    refine (h.keeps_failWrite .revert step).bind fun h => (h.keeps_setBsv _).bind fun h => h.keeps_toRebuild ?_ true
    exact hp
  next => exact h.keeps_boot _ _ _

theorem Tracked.keeps_writeRevert (h : Tracked s) : Keeps s (writeRevert s) := by
  unfold writeRevert
  split
  next => exact h.keeps_revertFails _
  next => exact h.keeps_boot _ _ _

theorem Tracked.keeps_beginRevert (h : Tracked s) : Keeps s (beginRevert s) :=
  (h.keeps_boot _ _ _).bind Tracked.keeps_writeRevert

theorem Tracked.keeps_demandRevert (h : Tracked s) (r : RevertReason) : Keeps s (demandRevert r s) := by
  unfold demandRevert
  dsimp only
  split
  next => exact (h.keeps_boot _ _ _).bind Tracked.keeps_beginRevert
  next => exact h.keeps_boot _ _ _

theorem Tracked.keeps_revertLands (h : Tracked s) (entry : JournalEntry) : Keeps s (revertLands entry s) := by
  have hset {s : State} (h : Tracked s) : Keeps s (if s.stm.setState = .trial then enterFrozen .reverted s else s) := by
    split
    · exact h.keeps_enterFrozen (by simp)
    · exact h.keeps_self
  have hrelease {s : State} (h : Tracked s) : Keeps s (if s.sup.part = .starting then
      s.setSup { s.sup with step := .rebuild } else dueRelease .revertLanded s) := by
    split
    next hp => exact h.keeps_toRebuild hp _
    next => exact h.keeps_boot _ _ _
  exact ((h.keeps_boot _ _ _).bind hset).bind hrelease

/-! ### Trial starts and attempts (R124, R125) -/

theorem Tracked.keeps_attemptFails (h : Tracked s) (step : FailStep) : Keeps s (attemptFails step s) :=
  (h.keeps_boot _ _ _).bind Tracked.keeps_beginRevert

theorem Tracked.keeps_trialStart (h : Tracked s) : Keeps s (trialStart s) := by
  unfold trialStart
  split
  next => exact (h.keeps_boot _ _ _).bind Tracked.keeps_beginRevert
  next =>
    split
    next => exact h.keeps_attemptFails _
    next => exact h.keeps_boot _ _ _

theorem Tracked.keeps_attemptLands (h : Tracked s) (entry : JournalEntry) : Keeps s (attemptLands entry s) := by
  unfold attemptLands
  dsimp only
  split
  next hp => exact (h.keeps_boot _ _ _).bind fun h => h.keeps_toRebuild hp _
  next =>
    split
    next => exact (h.keeps_boot _ _ _).bind Tracked.keeps_beginRevert
    next => exact h.keeps_boot _ _ _

/-! ### Commit and confirmation (R123, R128) -/

theorem Tracked.keeps_commitFails (h : Tracked s) (step : FailStep) : Keeps s (commitFails step s) := by
  unfold commitFails
  dsimp only
  split
  next hc =>
    exact (h.keeps_failWrite .commit step).bind fun h => h.keeps_enterReady (by rw [hc]; rfl) (h.good (.inr hc))
  next => exact h.keeps_boot _ _ _

theorem Tracked.keeps_commitLands (h : Tracked s) (entry : JournalEntry) : Keeps s (commitLands entry s) := by
  have hset {s : State} (h : Tracked s) :
      Keeps s (if s.stm.setState = .committing then setSetState .trial s else s) := by
    split
    next hc => exact h.keeps_setSetState (by rw [hc]; rfl) (by simp) (by simp)
    next => exact h.keeps_self
  exact ((h.keeps_boot _ _ _).bind hset).bind fun h => h.keeps_boot _ _ _

theorem Tracked.keeps_confirmationFails (h : Tracked s) (step : FailStep) : Keeps s (confirmationFails step s) := by
  unfold confirmationFails
  dsimp only
  split
  next => exact (h.keeps_boot _ _ _).bind Tracked.keeps_beginRevert
  next => exact h.keeps_boot _ _ _

theorem Tracked.keeps_beginConfirmation (h : Tracked s) : Keeps s (beginConfirmation s) := by
  unfold beginConfirmation
  dsimp only
  split
  next => exact (h.keeps_boot _ _ _).bind fun h => h.keeps_confirmationFails _
  next => exact h.keeps_boot _ _ _

theorem Tracked.keeps_confirmationLands (h : Tracked s) (entry : JournalEntry) :
    Keeps s (confirmationLands entry s) := by
  have hset {s : State} (h : Tracked s) :
      Keeps s (if s.stm.setState = .trial then setSetState .installed s else s) := by
    split
    next ht => exact h.keeps_setSetState (by rw [ht]; rfl) (by simp) (by simp)
    next => exact h.keeps_self
  exact (h.keeps_boot _ _ _).bind hset

/-! ### Outcomes by kind (R118, R119) -/

theorem Tracked.keeps_writeFails (h : Tracked s) (kind : EntryKind) (step : FailStep) :
    Keeps s (writeFails kind step s) := by
  cases kind
  case commit => exact h.keeps_commitFails step
  case attempt => exact h.keeps_attemptFails step
  case confirmation => exact h.keeps_confirmationFails step
  case revert => exact h.keeps_revertFails step

theorem Tracked.keeps_failsByReply (h : Tracked s) (kind : EntryKind) (reply : PortReply) :
    Keeps s (failsByReply kind reply s) := by
  unfold failsByReply
  split
  next =>
    split
    next => exact (h.keeps_elapseTo _).bind fun h => h.keeps_writeFails _ _
    next => exact h.keeps_writeFails _ _
    next => exact h.keeps_self
  next => exact h.keeps_self

theorem Tracked.keeps_landsBy (h : Tracked s) (kind : EntryKind) {f : JournalEntry → State → State}
    (hf : ∀ entry, Keeps s (f entry s)) : Keeps s (landsBy kind f s) := by
  unfold landsBy
  split
  next => exact hf _
  next => exact h.keeps_self

/-- A live CONFIRM (R70). -/
theorem Tracked.keeps_takeConfirm (h : Tracked s) (r : Record) : Keeps s (takeConfirm r s) := by
  unfold takeConfirm
  split
  next => exact h.keeps_refuse _ _ _
  next => exact h.keeps_beginConfirmation

/-- A live ABANDON (R71). -/
theorem Tracked.keeps_takeAbandon (h : Tracked s) (r : Record) : Keeps s (takeAbandon r s) := by
  unfold takeAbandon
  split
  next => exact h.keeps_refuse _ _ _
  next =>
    split
    next =>
      split
      next => exact h.keeps_refuse _ _ _
      next => exact h.keeps_demandRevert _
    next => exact h.keeps_abandonSet r

end

end Sys2Proof.Machine
end

section
/-!
PROOF. What the scan, the rebuild and the start-up keep (spec 06, 03, 08).
-/

namespace Sys2Proof.Machine

section

variable {s : State}

/-! ### The scan (R85 to R88, R104 to R108) -/

theorem Tracked.keeps_takePort (h : Tracked s) (f : FlashTxn) : Keeps s (takePort f s) :=
  h.keeps_of_blocks rfl rfl rfl rfl rfl rfl

/-- R85, R104: the head of a served queue becomes the SCANNING chunk. -/
theorem Tracked.keeps_takeHead (h : Tracked s) {r : ChunkRef} {rest : List ChunkRef} (hq : s.ckt.queue = r :: rest)
    (hscan : s.scan = none) (c : Component) (f : FlashTxn) : Keeps s (takeHead r rest c f s) := by
  have horder : Ledger (served s) (chunkStates s) (r :: rest) none := by simpa [InOrder, hq, hscan] using h.order
  obtain ⟨-, hr⟩ := (horder.queued r).1 List.mem_cons_self
  exact h.keeps_move hr ⟨rfl, rfl, rfl, rfl, rfl⟩ (chunkStates_moveChunk r .scanning _) (.inl ⟨by simp, rfl⟩)
    horder.toScanning

theorem Tracked.keeps_reportAllGood (h : Tracked s) (hgood : allGood s = true) : Keeps s (reportAllGood s) := by
  unfold reportAllGood
  split
  next hc => exact h.keeps_enterReady (by rw [hc]; rfl) (forall_good_of_allGood hgood)
  next => exact h.keeps_self

theorem Tracked.keeps_applyThreshold (h : Tracked s) : Keeps s (applyThreshold s) := by
  unfold applyThreshold
  split
  next => exact h.keeps_reject _ _
  next => exact h.keeps_self

/-- R74, R86: a counted mismatch. -/
theorem Tracked.keeps_countMismatch (h : Tracked s) (r : ChunkRef) : Keeps s (countMismatch r s) := by
  have hcounted : Keeps s (updateChunk r (fun c => { c with mismatches := min 15 (c.mismatches + 1) }) s) :=
    h.keeps_updateChunk r (fun _ => rfl) fun _ => rfl
  refine ((hcounted.bind fun h => h.keeps_post _ _).bind fun h => h.keeps_setStm ?_ ?_ ?_).bind
    Tracked.keeps_applyThreshold
  all_goals rfl

theorem Tracked.keeps_preparedOutcome (h : Tracked s) {c : Chunk} (hm : (c.ref, .scanning) ∈ chunkStates s)
    (good : Bool) : Keeps s (preparedOutcome good c (dropScan s)) := by
  have hgood := h.keeps_scanningToRest hm (st := .good) (by simp) (by simp)
  have hbad := h.keeps_scanningToRest hm (st := .bad) (by simp) (by simp)
  unfold preparedOutcome
  dsimp only
  split
  next =>
    split
    next hall => exact hgood.bind fun h => h.keeps_reportAllGood hall
    next => exact hgood
  next =>
    split
    next => exact hbad.bind fun h => h.keeps_countMismatch _
    next => exact hbad

theorem Tracked.keeps_healthOutcome (h : Tracked s) {c : Chunk} (hm : (c.ref, .scanning) ∈ chunkStates s)
    (good : Bool) : Keeps s (healthOutcome good c (dropScan s)) := by
  have hgood := h.keeps_scanningToRest hm (st := .good) (by simp) (by simp)
  have hbad := (h.keeps_scanningToRest hm (st := .bad) (by simp) (by simp)).bind fun h =>
    h.keeps_post .healthBad (detailChunk c.ref)
  unfold healthOutcome
  dsimp only
  split
  next => exact hgood
  next =>
    split
    next => exact hbad.bind fun h => h.keeps_demandRevert _
    next => exact hbad

/-- R86, R87: the outcome of the scan of the SCANNING chunk; only a served set has one. -/
theorem Tracked.keeps_scanOutcome (h : Tracked s) {c : Chunk} (hm : (c.ref, .scanning) ∈ chunkStates s) (good : Bool) :
    Keeps s (scanOutcome good c s) := by
  have hlive : liveState s.stm.setState = true := by
    have hserved := h.order.scanServed (by simp [(h.order.scanned c.ref).2 hm])
    simpa using (Bool.and_eq_true_iff.1 hserved).2
  have hstate : (dropScan s).stm.setState = s.stm.setState := by rw [dropScan_eq]
  unfold scanOutcome
  dsimp only
  rw [hstate]
  cases hx : s.stm.setState <;> simp only [hx, liveState, Bool.false_eq_true] at hlive ⊢
  case receiving | closed | ready => exact h.keeps_preparedOutcome hm good
  case trial | installed => exact h.keeps_healthOutcome hm good
  case committing => exact h.keeps_scanningToRest hm (by cases good <;> simp) (by cases good <;> simp)

theorem foldByte_ref (c : ScanContext) (b : Byte) (last : Bool) : (foldByte c b last).ref = c.ref := by
  unfold foldByte
  split
  next => rfl
  next => split <;> rfl

theorem Tracked.keeps_scanByte (h : Tracked s) (b : Byte) {c : ScanContext} (hc : s.scan = some c) :
    Keeps s (scanByte b c s) := by
  unfold scanByte
  split
  next =>
    dsimp only
    split
    next k hfind =>
      have hk : (k.ref, k.state) ∈ chunkStates s := mem_chunkStates_of_mem (List.mem_of_find?_eq_some hfind)
      have href : k.ref = c.ref := by simpa using List.find?_some hfind
      have hstate : k.state = .scanning := (h.order.scan_eq_iff hk).1 (by simp [hc, href])
      exact h.keeps_scanOutcome (hstate ▸ hk) _
    next => exact h.keeps_self
  next =>
    have hscan : ((some (foldByte c b false)).map ScanContext.ref) = s.scan.map ScanContext.ref := by
      simp [hc, foldByte_ref]
    exact SameTracker.keeps ⟨rfl, .inl rfl, id, rfl, rfl, rfl, fun _ => id, rfl, rfl, hscan⟩ h (.of_eq rfl) rfl

/-! ### The Log Parser (R44, R49, R50) -/

/-- The Log Parser and the event list are in none of the tracker's laws. -/
theorem Tracked.keeps_log (h : Tracked s) (l : Lgp) (r : Rpu) : Keeps s { s with lgp := l, rpu := r } :=
  h.keeps_of_blocks rfl rfl rfl rfl rfl rfl

theorem Tracked.keeps_noticeLogErase (h : Tracked s) (gs : List Nat) : Keeps s (noticeLogErase gs s) := by
  unfold noticeLogErase
  dsimp only
  split
  next => exact (h.keeps_log _ _).bind Tracked.keeps_enterIdle
  next => exact h.keeps_log _ _

theorem Tracked.keeps_noticeLogProgram (h : Tracked s) (page : Nat) : Keeps s (noticeLogProgram page s) := by
  unfold noticeLogProgram
  split
  next =>
    split
    next => exact h.keeps_self
    next => exact h.keeps_log _ _
  next => exact h.keeps_self

/-! ### The rebuild (R51 to R54, R77) -/

theorem Tracked.keeps_afterRead (h : Tracked s) : Keeps s (afterRead s) := h.keeps_log _ _

theorem Tracked.keeps_moveCursor (h : Tracked s) (o : Nat) : Keeps s (moveCursor o s) := by
  unfold moveCursor
  split
  next => exact h.keeps_log _ _
  next => exact h.keeps_log _ _

theorem Tracked.keeps_readSector (h : Tracked s) (kinds : List Byte) : Keeps s (readSector kinds s) := by
  unfold readSector
  split
  next => exact h.keeps_log _ _
  next => exact h.keeps_self

theorem Tracked.keeps_tearRebuilt (h : Tracked s) (start cells : Nat) : Keeps s (tearRebuilt start cells s) :=
  (h.keeps_post _ _).bind fun h => h.keeps_moveCursor _

theorem Tracked.keeps_rebuildRecord (h : Tracked s) (kind : RecordKind) (r : Record) :
    Keeps s (rebuildRecord kind r s) := by
  cases kind
  case openSet => exact h.keeps_rebuildOpen r
  case component => exact h.keeps_takeComponent r
  case codes => exact h.keeps_takeCodes r
  case close => exact h.keeps_takeClose r
  case abandon => exact h.keeps_rebuildAbandon r
  case commit | confirm | clear | rescan => exact h.keeps_self

theorem Tracked.keeps_handRebuilt (h : Tracked s) (kind : Byte) (r : Record) : Keeps s (handRebuilt kind r s) := by
  unfold handRebuilt
  split
  next => exact h.keeps_rebuildRecord _ r
  next => exact h.keeps_postWith _ _ _

theorem Tracked.keeps_rebuildRecordAt (h : Tracked s) (bytes : List Byte) : Keeps s (rebuildRecordAt bytes s) := by
  unfold rebuildRecordAt
  dsimp only
  split
  next => exact h.keeps_self
  next =>
    split
    next => exact (h.keeps_log _ _).bind Tracked.keeps_afterRead
    next =>
      split
      next => exact h.keeps_afterRead.bind fun h => h.keeps_tearRebuilt _ _
      next =>
        split
        next => exact h.keeps_self
        next =>
          split
          next => exact (h.keeps_afterRead.bind fun h => h.keeps_moveCursor _).bind fun h => h.keeps_handRebuilt _ _
          next => exact h.keeps_afterRead.bind fun h => h.keeps_tearRebuilt _ _

theorem Tracked.keeps_goTo (h : Tracked s) (hp : s.sup.part = .starting) {step : StartStep} (hstep : step ≠ .finished) :
    Keeps s (goTo step s) := h.keeps_startUpStep hp rfl id hstep

/-- R77: in STARTING, where no queue is served, the set settles by its rebuild class. -/
theorem Tracked.keeps_settleSet (h : Tracked s) (hp : s.sup.part = .starting) : Keeps s (settleSet s) := by
  have hsettle {s : State} (h : Tracked s) (hp : s.sup.part = .starting) {x : SetState} (hc : x ≠ .committing)
      (hr : x ≠ .ready) : Keeps s (setSetState x s) :=
    h.keeps_setSetState_of_served ((served_eq_false_of_starting (s := setSetState x s) hp).trans
      (served_eq_false_of_starting hp).symm) hc fun hx => absurd hx hr
  have hclear {s : State} (h : Tracked s) : Keeps s (if s.stm.setState = .rejected ∨ s.stm.setState = .abandoned then
      s.setStm { s.stm with reason := none } else s) := by
    split
    next => exact h.keeps_setStm rfl rfl rfl
    next => exact h.keeps_self
  unfold settleSet
  split
  next => exact hsettle h hp (by simp) (by simp)
  next cs hset =>
    have hdropped : Keeps s (s.setStm { s.stm with set := some { cs with rebuildClass := none } }) :=
      SameTracker.keeps ⟨rfl, .inl rfl, id, rfl, by simp [hset], by simp [hset], fun _ => id, rfl, rfl, rfl⟩ h
        (.of_eq rfl) rfl
    have hcleared := hdropped.bind hclear
    dsimp only
    split
    next => exact hcleared.bind fun h => hsettle h (hcleared.part.trans hp) (by simp) (by simp)
    next => exact hcleared.bind fun h => hsettle h (hcleared.part.trans hp) (by simp) (by simp)
    next => exact hcleared.bind fun h => h.keeps_enterFrozen (by simp)
    next => exact hdropped
    next => exact hdropped

/-! ### The start-up (R116, R124, R135, R142) -/

theorem Tracked.keeps_accountTrial (h : Tracked s) (hp : s.sup.part = .starting) : Keeps s (accountTrial s) := by
  unfold accountTrial
  split
  next => exact (h.keeps_goTo hp (by simp)).bind Tracked.keeps_trialStart
  next => exact h.keeps_goTo hp (by simp)

theorem Tracked.keeps_applyJournal (h : Tracked s) (w : Option (Nat × JournalEntry)) : Keeps s (applyJournal w s) := by
  unfold applyJournal
  split
  next => exact h.keeps_setBsv _
  next => exact h.keeps_setBsv _

theorem Tracked.keeps_presenceKnown (h : Tracked s) (hp : s.sup.part = .starting) (p : Presence) :
    Keeps s (presenceKnown p s) := by
  have hknown : Keeps s (s.setPpc { s.ppc with presence := p, pollSince := none }) :=
    h.keeps_of_blocks rfl rfl rfl rfl rfl rfl
  exact hknown.bind fun h => h.keeps_goTo hp (by simp)

end

end Sys2Proof.Machine
end

section
/-!
PROOF. The fourth law and the open transaction (spec 01, 02): from what an operation keeps to the law, the decision
points, and the bytes and crossings of a read.
-/

namespace Sys2Proof.Machine

/-- R67 to R69: `t` meets the fourth law, and where its set is COMMITTING that of `s` was so or was READY. -/
structure Kept (s t : State) : Prop where
  law : ReadyLaw t
  committing : t.stm.setState = .committing → s.stm.setState = .committing ∨ s.stm.setState = .ready

section

variable {s t u : State}

/-! ### From what an operation keeps to the law -/

theorem Tracked.queueScanLaw (h : Tracked s) : QueueScanLaw s := (queueScanLaw_iff s).2 ⟨h.standing, h.order⟩

theorem Tracked.chunks_good (h : Tracked s) (hs : s.stm.setState = .ready ∨ s.stm.setState = .committing) :
    ∀ c ∈ s.ckt.chunks, c.state = .good :=
  fun _ hc => h.good hs _ (mem_chunkStates_of_mem hc)

theorem ReadyLaw.tracked (h : ReadyLaw s) : Tracked s where
  standing := ((queueScanLaw_iff s).1 h.tracker).1
  order := ((queueScanLaw_iff s).1 h.tracker).2
  good hs p hp := by
    obtain ⟨c, hc, -, hstate⟩ := mem_chunkStates_iff.1 hp
    exact hstate ▸ h.allGood hs c hc

/-- R81: what the Chunk Tracker takes into account depends on the settings and the target slot alone. -/
theorem takesGranule_congr (hset : t.settings = s.settings)
    (htarget : t.stm.set.map CurrentSet.target = s.stm.set.map CurrentSet.target) (g : Nat) :
    takesGranule t g = takesGranule s g := by
  unfold takesGranule
  rw [hset]
  cases ht : t.stm.set <;> cases hs : s.stm.set <;> simp_all

theorem Keeps.kept (k : Keeps s t) (h : ReadyLaw s) : Kept s t where
  committing hc := .inl (k.committing hc).1
  law := {
    tracker := k.tracked.queueScanLaw
    allGood := k.tracked.chunks_good
    closedTxn := by rw [k.txn.isOpen, k.txn.disposition, k.txn.cut]; exact h.closedTxn
    startUp := by rw [k.part, k.txn.disposition, k.txn.cut]; exact h.startUp
    run := by
      rw [k.txn.cls, k.txn.disposition, k.txn.cut]
      exact fun hr => h.run (k.txn.run hr)
    append := by rw [k.txn.cls, k.txn.disposition, k.txn.cut, k.txn.start, k.settings]; exact h.append
    noWrite := fun hc => by
      obtain ⟨hs, htarget⟩ := k.committing hc
      simp only [k.txn.cls, k.txn.disposition, k.txn.start, takesGranule_congr k.settings htarget]
      exact h.noWrite hs }

theorem Kept.bind (k : Kept s t) (k' : Tracked t → Keeps t u) : Kept s u :=
  have k'' := k' k.law.tracked
  ⟨(k''.kept k.law).law, fun hc => k.committing (k''.committing hc).1⟩

theorem Kept.of_setState_eq (hs : u.stm.setState = s.stm.setState) (k : Kept u t) : Kept s t :=
  ⟨k.law, hs ▸ k.committing⟩

theorem ReadyLaw.kept_self (h : ReadyLaw s) : Kept s s := ⟨h, .inl⟩

/-- A transaction without a disposition has no run and no cut. -/
theorem ReadyLaw.of_undecided (h : ReadyLaw s) (hd : s.trc.txn.disposition = none) :
    s.trc.txn.run = none ∧ s.trc.txn.cut = none := by
  constructor
  · by_contra hr
    simpa [hd] using (h.run hr).2.1
  · by_contra hc
    simpa [hd] using (h.append hc).2.1

/-- With no disposition, run and cut there is nothing to hold of the transaction. -/
theorem Tracked.readyLaw_of_undecided (h : Tracked t) (hd : t.trc.txn.disposition = none) (hr : t.trc.txn.run = none)
    (hc : t.trc.txn.cut = none) : ReadyLaw t where
  tracker := h.queueScanLaw
  allGood := h.chunks_good
  closedTxn := fun _ => ⟨hd, hc⟩
  startUp := fun _ => ⟨hd, hc⟩
  run := fun hn => absurd hr hn
  append := fun hn => absurd hc hn
  noWrite := fun _ hf => by simp [hd] at hf

theorem Tracked.kept_of_undecided (h : Tracked t) (hd : t.trc.txn.disposition = none) (hr : t.trc.txn.run = none)
    (hc : t.trc.txn.cut = none) (hstate : t.stm.setState = s.stm.setState) : Kept s t :=
  ⟨h.readyLaw_of_undecided hd hr hc, fun hcom => .inl (hstate ▸ hcom)⟩

/-- A transaction of this class and start address writes no granule that the Chunk Tracker takes into account (R81). -/
def SparesSlot (s : State) (cls : Option CmdClass) (start : Option Addr) : Prop :=
  ∀ a, start = some a → (cls = some .program ∨ cls = some .erase4k → takesGranule s (granuleOf a) = false) ∧
    (cls = some .erase64k → ∀ g ∈ blockGranules a, takesGranule s g = false)

/-- The transaction record as a command of the open transaction leaves it: what the fourth law says of it. -/
structure Lawful (s : State) (x : Txn) : Prop where
  isOpen : x.isOpen = true
  run : x.run ≠ none → x.cls = some .read ∧ (x.disposition = some .forward ∨ x.disposition = some .translate) ∧
    x.cut = none
  append : x.cut ≠ none → x.cls = some .program ∧ x.disposition = some .forward ∧
    ∃ a, x.start = some a ∧ (lookup s.settings (granuleOf a)).kind = .manifest
  noWrite : s.stm.setState = .committing → x.disposition = some .forward → SparesSlot s x.cls x.start

/-- In RUN and DEGRADED the open transaction takes another record. -/
theorem Tracked.kept_of_lawful (h : Tracked s) (hp : s.sup.part ≠ .starting) (l : Lawful s t.trc.txn)
    (hblocks : t.sup = s.sup ∧ t.stm = s.stm ∧ t.ckt = s.ckt ∧ t.scan = s.scan ∧ t.settings = s.settings) :
    Kept s t := by
  obtain ⟨hsup, hstm, hckt, hscan, hset⟩ := hblocks
  have ht : Tracked t := (SameTracker.of_blocks hsup hstm hckt hscan).tracked h
  have htakes := takesGranule_congr hset (by rw [hstm])
  refine ⟨⟨ht.queueScanLaw, ?_, ?_, ?_, ?_, ht.chunks_good, ?_⟩, fun hc => .inl (hstm ▸ hc)⟩
  · rw [l.isOpen]; simp
  · rw [hsup]; exact fun hs => absurd hs hp
  · exact l.run
  · rw [hset]; exact l.append
  · simp only [hstm, htakes]; exact l.noWrite

/-! ### Decision points (R3 to R9, R25, R26) -/

/-- What a decision point knows of the open transaction (R1, R3). -/
theorem of_deciding {c : CmdClass} {code : Byte} (hd : deciding s c code = true) :
    s.sup.part ≠ .starting ∧ s.trc.txn.isOpen = true ∧ s.trc.txn.disposition = none := by
  simp only [deciding, awake, upstreamHolds, undecided, Bool.and_eq_true, bne_iff_ne, Option.isNone_iff_eq_none] at hd
  obtain ⟨⟨⟨hp, ho, -⟩, hn, -⟩, -⟩ := hd
  exact ⟨hp, ho, hn⟩

section Decision

variable {c : CmdClass} {code : Byte}

/-- A decision other than of a READ that goes to the flash or of an append. -/
theorem ReadyLaw.kept_decided (h : ReadyLaw s) (hd : deciding s c code = true) {k : CmdClass} {a : Option Addr}
    {d : Disposition}
    (hspare : s.stm.setState = .committing → d = .forward → SparesSlot s (some k) a)
    (hblocks : t.sup = s.sup ∧ t.stm = s.stm ∧ t.ckt = s.ckt ∧ t.scan = s.scan ∧ t.settings = s.settings)
    (htxn : t.trc.txn = { s.trc.txn with cls := some k, start := a, running := a, disposition := some d }) :
    Kept s t := by
  obtain ⟨hp, ho, hn⟩ := of_deciding hd
  obtain ⟨hr, hc⟩ := h.of_undecided hn
  refine h.tracked.kept_of_lawful hp ?_ hblocks
  rw [htxn]
  exact ⟨ho, fun hrun => absurd hr hrun, fun hcut => absurd hc hcut, by simpa using hspare⟩

theorem ReadyLaw.kept_enterClass (h : ReadyLaw s) (hd : deciding s c code = true) (k : CmdClass) :
    Kept s (enterClass k s) := by
  obtain ⟨-, -, hn⟩ := of_deciding hd
  obtain ⟨hr, hc⟩ := h.of_undecided hn
  have hentered : SameTracker s (enterClass k s) := .of_blocks rfl rfl rfl rfl
  exact (hentered.tracked h.tracked).kept_of_undecided hn hr hc rfl

/-- R5: a class without an address has no start address, so its forwarding is no write. -/
theorem ReadyLaw.kept_forwardPlain (h : ReadyLaw s) (c : CmdClass) (code : Byte) : Kept s (forwardPlain c code s) := by
  unfold forwardPlain
  split
  next hd => exact h.kept_decided hd (fun _ _ _ ha => by simp at ha) ⟨rfl, rfl, rfl, rfl, rfl⟩ rfl
  next => exact h.kept_self

/-- R4, R30, R31: a READ that goes to the flash has its run. -/
theorem ReadyLaw.kept_readSent (h : ReadyLaw s) (hd : deciding s c code = true) (a : Addr) {d : Disposition}
    (hf : d = .forward ∨ d = .translate) (f : Nat) : Kept s (readSent s code a d f) := by
  obtain ⟨hp, ho, hn⟩ := of_deciding hd
  obtain ⟨-, hc⟩ := h.of_undecided hn
  exact h.tracked.kept_of_lawful hp
    ⟨ho, fun _ => ⟨rfl, hf.imp (congrArg some) (congrArg some), hc⟩, fun hcut => absurd hc hcut,
      fun _ _ _ _ => by simp [readSent]⟩ ⟨rfl, rfl, rfl, rfl, rfl⟩

theorem ReadyLaw.kept_decideRead (h : ReadyLaw s) (hd : deciding s c code = true) (a : Addr) :
    Kept s (decideRead code a s) := by
  have hforward (hk : (∃ n, (lookup s.settings (granuleOf a)).kind = .slot n) ∨
      (lookup s.settings (granuleOf a)).kind = .manifest ∨ (lookup s.settings (granuleOf a)).kind = .openArea ∨
      (lookup s.settings (granuleOf a)).kind = .locked) : Kept s (decideRead code a s) := by
    rw [decideRead_of_forwarded code hk]; exact h.kept_readSent hd a (.inl rfl) _
  cases hk : (lookup s.settings (granuleOf a)).kind
  case slot n => exact hforward (.inl ⟨n, hk⟩)
  case manifest => exact hforward (by simp [hk])
  case openArea => exact hforward (by simp [hk])
  case locked => exact hforward (by simp [hk])
  case bootView => rw [decideRead_of_bootView code hk]; exact h.kept_readSent hd a (.inr rfl) _
  case report =>
    rw [decideRead_of_report code hk]
    exact h.kept_decided hd (d := .answer) (by simp) ⟨rfl, rfl, rfl, rfl, rfl⟩ rfl
  case hidden =>
    rw [decideRead_of_hidden code hk, postFilled_eq]
    exact h.kept_decided hd (d := .fill) (by simp) ⟨rfl, rfl, rfl, rfl, rfl⟩ rfl

/-- R8: a suppressed write, after any events. -/
theorem ReadyLaw.kept_suppressWrite (h : ReadyLaw s) (hd : deciding s c code = true) (k : CmdClass) (a : Option Addr)
    (r : Rpu) : Kept s (suppressWrite k a { s with rpu := r }) :=
  h.kept_decided hd (d := .suppress) (by simp) ⟨rfl, rfl, rfl, rfl, rfl⟩ rfl

theorem takesGranule_eq_false_of_kind {g : Nat} (h : ∀ n, (lookup s.settings g).kind ≠ .slot n) :
    takesGranule s g = false := by
  unfold takesGranule
  split
  next => simpa using h _
  next => rfl

/-- R28: while the set is COMMITTING no slot is open, so a granule that permits a write is in none. -/
theorem takesGranule_eq_false_of_writable {g : Nat} {p : Prop} (hc : s.stm.setState = .committing)
    (hw : GranuleWritable s g p) : takesGranule s g = false := by
  refine takesGranule_eq_false_of_kind fun n hn => ?_
  obtain ⟨-, -, hk | ⟨m, -, -, -, -, hstate⟩ | ⟨hk, -⟩⟩ | ⟨-, hk, -⟩ := hw
  · simp [hn] at hk
  · simp [hc] at hstate
  · simp [hn] at hk
  · simp [hn] at hk

theorem ReadyLaw.kept_decideErase (h : ReadyLaw s) (hd : deciding s c code = true) {k : CmdClass} {a : Addr}
    {gs : List Nat} (hk : k = .erase4k ∧ gs = [granuleOf a] ∨ k = .erase64k ∧ gs = blockGranules a)
    (oor : Option Addr) : Kept s (decideErase k code a gs oor s) := by
  unfold decideErase
  split
  next hall =>
    have hw := (all_erasePermits_iff (of_deciding hd).1 gs).1 hall
    refine h.kept_decided hd (d := .forward) (fun hc _ b hb => ?_) ⟨rfl, rfl, rfl, rfl, rfl⟩ rfl
    obtain rfl := Option.some.inj hb
    have htakes (g) (hg : g ∈ gs) := takesGranule_eq_false_of_writable hc (hw g hg)
    obtain ⟨rfl, rfl⟩ | ⟨rfl, rfl⟩ := hk
    · exact ⟨fun _ => htakes _ (by simp), by simp⟩
    · exact ⟨by simp, fun _ => htakes⟩
  next => rw [postOutOfRange_eq]; exact h.kept_suppressWrite hd _ _ _

theorem postRuling_eq (k : Option EventKind) (a : Addr) (s : State) : postRuling k a s = { s with
    rpu := k.elim s.rpu fun k => s.rpu.post k (defaultSeq s) (detailAddr a) } := by
  cases k <;> rfl

/-- R163: a set being prepared is abandoned. -/
theorem Tracked.keeps_abandonOnFull (h : Tracked s) : Keeps s (abandonOnFull s) := by
  unfold abandonOnFull
  split
  next => exact h.keeps_enterFrozen (by simp)
  next => exact h.keeps_self

/-- The Log Parser's ruling on a PROGRAM, where it is asked (R26, R38). -/
def programRuling (s : State) (a : Addr) : Option EventKind :=
  if asksLog s (granuleOf a) then appendRuling s a else none

/-- R6, R40: a PROGRAM that is forwarded, an append with its cut boundary. -/
theorem decideProgram_of_permits {a : Addr} (hw : permits s (granuleOf a) (programRuling s a).isNone = true)
    (code : Byte) : decideProgram code a s = { s with trc := { s.trc with
      txn := { s.trc.txn with
        cls := some .program, start := some a, running := some a, disposition := some .forward
        cut := if asksLog s (granuleOf a) then some (pageEnd a) else none }
      flash := some (upstreamTxn s code (some a)) } } :=
  if_pos hw

/-- R8, R24, R38, R163: a PROGRAM that is not: its events, and where the log is full the set's end. -/
theorem decideProgram_of_not_permits {a : Addr} (hw : ¬ permits s (granuleOf a) (programRuling s a).isNone = true)
    (code : Byte) : ∃ r, decideProgram code a s = if programRuling s a = some .logFull then
      abandonOnFull (suppressWrite .program (some a) { s with rpu := r })
      else suppressWrite .program (some a) { s with rpu := r } := by
  have hdecide : decideProgram code a s = _ := if_neg hw
  rw [hdecide, postRuling_eq, postOutOfRange_eq]
  exact ⟨_, rfl⟩

theorem ReadyLaw.kept_decideProgram (h : ReadyLaw s) (hd : deciding s c code = true) (a : Addr) :
    Kept s (decideProgram code a s) := by
  obtain ⟨hp, ho, hn⟩ := of_deciding hd
  obtain ⟨hr, hc⟩ := h.of_undecided hn
  by_cases hpermits : permits s (granuleOf a) (programRuling s a).isNone = true
  · have hw := (permits_iff s _ _ _ Iff.rfl hp).1 hpermits
    rw [decideProgram_of_permits hpermits]
    refine h.tracked.kept_of_lawful hp ⟨ho, fun hrun => absurd hr hrun, fun hcut => ⟨rfl, rfl, a, rfl, ?_⟩,
      fun hcom _ b hb => ?_⟩ ⟨rfl, rfl, rfl, rfl, rfl⟩
    · have hasks : asksLog s (granuleOf a) = true := by_contra fun hasks => hcut (if_neg hasks)
      exact ((asksLog_iff s a).1 hasks).2.1
    · obtain rfl := Option.some.inj hb
      exact ⟨fun _ => takesGranule_eq_false_of_writable hcom hw, by simp⟩
  · obtain ⟨r, hdecide⟩ := decideProgram_of_not_permits hpermits code
    rw [hdecide]
    split
    next => exact (h.kept_suppressWrite hd _ _ _).bind Tracked.keeps_abandonOnFull
    next => exact h.kept_suppressWrite hd _ _ _

end Decision

/-! ### The bytes and crossings of a read (R31 to R35) -/

theorem Tracked.keeps_sendBytes (h : Tracked s) (n : Nat) : Keeps s (sendBytes n s) := by
  have hsent : SameTracker s (sendBytes n s) := .of_blocks rfl rfl rfl rfl
  refine hsent.keeps h ⟨rfl, rfl, rfl, rfl, rfl, fun hr hn => hr ?_⟩ rfl
  simp [sendBytes_eq, hn]

/-- R33, R34: a read without a cut turns to fill. -/
theorem ReadyLaw.kept_turnToFill (h : ReadyLaw s) (ho : s.trc.txn.isOpen = true) (hd : s.trc.txn.disposition ≠ none)
    (hc : s.trc.txn.cut = none) (a : Addr) : Kept s (turnToFill a s) := by
  have hp : s.sup.part ≠ .starting := fun hp => hd (h.startUp hp).1
  rw [turnToFill_eq]
  exact h.tracked.kept_of_lawful hp ⟨ho, by simp, by simp [hc], by simp⟩ ⟨rfl, rfl, rfl, rfl, rfl⟩

theorem ReadyLaw.kept_continueRun (h : ReadyLaw s) (ho : s.trc.txn.isOpen = true) : Kept s (continueRun s) := by
  unfold continueRun
  split
  next run _ hrun _ =>
    obtain ⟨-, hd, hc⟩ := h.run (by simp [hrun])
    split
    next => exact h.kept_self
    next => exact h.kept_turnToFill ho (by obtain hd | hd := hd <;> simp [hd]) hc _
  next => exact h.kept_self

theorem ReadyLaw.kept_leaveWindow (h : ReadyLaw s) (ho : s.trc.txn.isOpen = true)
    (hd : s.trc.txn.disposition = some .answer) : Kept s (leaveWindow s) := by
  have hc : s.trc.txn.cut = none := by
    by_contra hc
    simpa [hd] using (h.append hc).2.1
  unfold leaveWindow
  split
  next => exact h.kept_turnToFill ho (by simp [hd]) hc _
  next => exact h.kept_self

/-- Data bytes keep the law, so it is the judgement at the crossing that has to. -/
theorem ReadyLaw.kept_sendToCrossing (h : ReadyLaw s) (within : Option Nat) (a : Addr) {judge : State → State}
    (hj : ∀ n, ReadyLaw (sendBytes n s) → Kept (sendBytes n s) (judge (sendBytes n s))) :
    Kept s (sendToCrossing within a judge s) := by
  have hsent (n : Nat) : Kept s (sendBytes n s) := (h.tracked.keeps_sendBytes n).kept h
  unfold sendToCrossing
  split
  next => exact Kept.of_setState_eq (u := sendBytes _ s) rfl (hj _ (hsent _).law)
  next =>
    split
    next => exact hsent _
    next => exact h.kept_self

end

end Sys2Proof.Machine
end

section
/-!
PROOF. Records, the bytes of an append and the end of a transaction under the fourth law (spec 01, 03, 04): COMMITTING
is entered by a COMMIT alone, and no open transaction writes into a COMMITTING set's slot.
-/

namespace Sys2Proof.Machine

section

variable {s t u : State}

/-! ### Records and the bytes of an append (R39 to R47, R68) -/

/-- R47: what the transaction forwards, if anything, is an append. -/
def AppendsOnly (s : State) : Prop := s.trc.txn.disposition = some .forward → s.trc.txn.cut ≠ none

/-- R68: a READY set becomes COMMITTING, the open transaction being none but an append. -/
theorem ReadyLaw.committing (h : ReadyLaw s) (hready : s.stm.setState = .ready) (happend : AppendsOnly s) :
    ReadyLaw (setSetState .committing s) where
  tracker := by
    have hserved : served (setSetState .committing s) = served s := by simp [served, setSetState_eq, hready, liveState]
    refine (queueScanLaw_iff _).2 ⟨⟨h.tracker.starting, h.tracker.held, h.tracker.components,
      h.tracked.standing.declared⟩, ?_⟩
    unfold InOrder
    rw [hserved]; exact h.tracked.order
  closedTxn := h.closedTxn
  startUp := h.startUp
  run := h.run
  append := h.append
  allGood _ := h.allGood (.inl hready)
  noWrite _ hf a ha := by
    obtain ⟨hcls, -, b, hb, hk⟩ := h.append (happend hf)
    have hab : a = b := Option.some.inj (ha.symm.trans hb)
    exact ⟨fun _ => takesGranule_eq_false_of_kind fun n hn => by simp [setSetState_eq, hab, hk] at hn,
      fun h64 => by simp [setSetState_eq, hcls] at h64⟩

theorem ready_of_commitVerdict {r : Record} {cs : CurrentSet} (h : commitVerdict r s = .ok cs) :
    s.stm.setState = .ready := by
  unfold commitVerdict at h
  obtain ⟨-, h⟩ := of_check h
  split at h
  next => simp at h
  next =>
    obtain ⟨-, h⟩ := of_check h
    obtain ⟨-, h⟩ := of_check h
    obtain ⟨hready, -⟩ := of_check h
    exact of_not_not hready

theorem Tracked.keeps_beginCommit (h : Tracked s) (cs : CurrentSet) : Keeps s (beginCommit cs s) := by
  unfold beginCommit
  split
  next => exact h.keeps_commitFails _
  next => exact h.keeps_boot _ _ _

/-- R68, R122: COMMITTING is entered from READY. -/
theorem ReadyLaw.kept_takeCommit (h : ReadyLaw s) (happend : AppendsOnly s) (r : Record) :
    Kept s (takeCommit r s) := by
  unfold takeCommit
  split
  next => exact (h.tracked.keeps_refuse _ _ _).kept h
  next cs hv =>
    have hready := ready_of_commitVerdict hv
    have hcommitting : Kept s (setSetState .committing s) := ⟨h.committing hready happend, fun _ => .inr hready⟩
    exact hcommitting.bind fun h => h.keeps_beginCommit cs

theorem ReadyLaw.kept_takeRecord (h : ReadyLaw s) (happend : AppendsOnly s) (kind : RecordKind)
    (r : Record) : Kept s (takeRecord kind r s) := by
  cases kind
  case openSet => exact (h.tracked.keeps_takeOpen r).kept h
  case component => exact (h.tracked.keeps_takeComponent r).kept h
  case codes => exact (h.tracked.keeps_takeCodes r).kept h
  case close => exact (h.tracked.keeps_takeClose r).kept h
  case commit => exact h.kept_takeCommit happend r
  case confirm => exact (h.tracked.keeps_takeConfirm r).kept h
  case abandon => exact (h.tracked.keeps_takeAbandon r).kept h
  case clear => exact (h.tracked.keeps_takeClear r).kept h
  case rescan => exact (h.tracked.keeps_takeRescan r).kept h

/-- R47: a record is handed with no transaction open or within its append. -/
theorem ReadyLaw.kept_handOff (h : ReadyLaw s) {f : State → State}
    (hf : AppendsOnly s → Kept s (f s)) : Kept s (handOff f s) := by
  unfold handOff
  split
  next hhands =>
    refine hf fun hd => ?_
    obtain ⟨-, ho | hc⟩ : _ ∧ (s.trc.txn.isOpen = false ∨ s.trc.txn.cut.isSome = true) := by
      simpa [handsRecord] using hhands
    · simp [(h.closedTxn ho).1] at hd
    · exact Option.isSome_iff_ne_none.1 hc
  next => exact h.kept_self

theorem ReadyLaw.kept_handRecord (h : ReadyLaw s) (hc : s.trc.txn.cut ≠ none) (kind : Byte) (r : Record) :
    Kept s (handRecord kind r s) := by
  unfold handRecord
  split
  next => exact h.kept_takeRecord (fun _ => hc) _ r
  next => exact (h.tracked.keeps_postWith _ _ _).kept h

/-- What comes after a change of the Log Parser's own state. -/
theorem ReadyLaw.kept_setLgp (h : ReadyLaw s) (l : Lgp) (k : ReadyLaw (s.setLgp l) → Kept (s.setLgp l) t) : Kept s t :=
  Kept.of_setState_eq (u := s.setLgp l) rfl (k ((h.tracked.keeps_setLgp l).kept h).law)

theorem Tracked.keeps_tearRecord (h : Tracked s) (start cells : Nat) : Keeps s (tearRecord start cells s) :=
  h.keeps_log _ _

theorem ReadyLaw.kept_completeRecord (h : ReadyLaw s) (hc : s.trc.txn.cut ≠ none) (start : Nat) (hdr body : List Byte) :
    Kept s (completeRecord start hdr body s) := by
  unfold completeRecord
  dsimp only
  split
  next => exact h.kept_setLgp _ fun h => h.kept_handRecord (by exact hc) _ _
  next => exact (h.tracked.keeps_tearRecord _ _).kept h

theorem ReadyLaw.kept_appendByte (h : ReadyLaw s) (hc : s.trc.txn.cut ≠ none) (b : Byte) : Kept s (appendByte b s) := by
  unfold appendByte
  dsimp only
  split
  next =>
    split
    next => exact (h.tracked.keeps_setLgp _).kept h
    next =>
      split
      next => exact h.kept_setLgp _ fun h => (h.tracked.keeps_tearRecord _ _).kept h
      next =>
        split
        next => exact h.kept_setLgp _ fun h => h.kept_completeRecord (by exact hc) _ _ _
        next => exact (h.tracked.keeps_setLgp _).kept h
  next =>
    split
    next => exact (h.tracked.keeps_setLgp _).kept h
    next => exact h.kept_setLgp _ fun h => h.kept_completeRecord (by exact hc) _ _ _

/-! ### Data bytes (R1, R6, R39, R40) -/

theorem Tracked.keeps_sendOn (h : Tracked s) (b : Byte) : Keeps s (sendOn b s) :=
  h.keeps_of_blocks rfl rfl rfl rfl rfl rfl

theorem Tracked.keeps_byteReceived (h : Tracked s) (running : Addr) :
    Keeps s (setTxn (byteReceived s.trc.txn running) s) :=
  have hsame : SameTracker s (setTxn (byteReceived s.trc.txn running) s) := .of_blocks rfl rfl rfl rfl
  hsame.keeps h ⟨rfl, rfl, rfl, rfl, rfl, id⟩ rfl

theorem Tracked.keeps_passByte (h : Tracked s) (b : Byte) (running : Addr) : Keeps s (passByte b running s) :=
  have hsame : SameTracker s (passByte b running s) := .of_blocks rfl rfl rfl rfl
  hsame.keeps h ⟨rfl, rfl, rfl, rfl, rfl, id⟩ rfl

theorem Tracked.keeps_discardCut (h : Tracked s) (boundary : Nat) (running : Addr) :
    Keeps s (discardCut boundary running s) := by
  rw [discardCut_eq]
  exact SameTracker.keeps (.of_blocks rfl rfl rfl rfl) h ⟨rfl, rfl, rfl, rfl, rfl, id⟩ rfl

theorem ReadyLaw.kept_dataByte (h : ReadyLaw s) (b : Byte) (start running : Addr) (d : Disposition) :
    Kept s (dataByte b start running d s) := by
  have hpassed := (h.tracked.keeps_passByte b running).kept h
  unfold dataByte
  split
  next =>
    split
    next cut hcut =>
      split
      next => exact (h.tracked.keeps_discardCut _ _).kept h
      next =>
        unfold takeByte
        split
        next =>
          exact Kept.of_setState_eq (u := passByte b running s) rfl
            (hpassed.law.kept_appendByte (by simp [passByte_eq, hcut]) b)
        next => exact hpassed
    next => exact hpassed
  next => exact (h.tracked.keeps_byteReceived _).kept h
  next => exact (h.tracked.keeps_byteReceived _).kept h
  next => exact (h.tracked.keeps_byteReceived _).kept h
  next => exact (h.tracked.keeps_byteReceived _).kept h

/-! ### The end of a transaction (R13, R14, R49, R50, R82, R83) -/

theorem ReadyLaw.kept_closeTxn (h : ReadyLaw s) : Kept s (closeTxn s) := by
  have hsame : SameTracker s (closeTxn s) := .of_blocks rfl rfl rfl rfl
  exact (hsame.tracked h.tracked).kept_of_undecided rfl rfl rfl rfl

theorem Tracked.keeps_clearCleanup (h : Tracked s) : Keeps s (clearCleanup s) :=
  h.keeps_of_blocks rfl rfl rfl rfl rfl rfl

theorem Tracked.keeps_startBusy (h : Tracked s) (k : PeriodKind) (a : Addr) : Keeps s (startBusy k a s) :=
  h.keeps_of_blocks rfl rfl rfl rfl rfl rfl

theorem Tracked.keeps_endProgram (h : Tracked s) {a : Addr}
    (hc : s.stm.setState = .committing → takesGranule s (granuleOf a) = false) : Keeps s (endProgram a s) := by
  have hpage : a.toNat / 256 * 256 / 4096 = granuleOf a := by unfold granuleOf; omega
  exact (h.keeps_startBusy .program a).bind fun h => (h.keeps_noticeProgram fun hcom => by
    rw [hpage]; exact hc hcom).bind fun h => h.keeps_noticeLogProgram _

theorem Tracked.keeps_endErase (h : Tracked s) {a : Addr} {gs : List Nat}
    (hc : s.stm.setState = .committing → ∀ g ∈ gs, takesGranule s g = false) : Keeps s (endErase a gs s) :=
  (h.keeps_startBusy .erase a).bind fun h => (h.keeps_noticeErase hc).bind fun h => h.keeps_noticeLogErase _

/-- R1: the release of UCS; a COMMITTING set's slot is written by no open transaction. -/
theorem Tracked.keeps_endForwarded (h : Tracked s) {x : Txn}
    (hc : s.stm.setState = .committing → SparesSlot s x.cls x.start) : Keeps s (endForwarded x s) := by
  unfold endForwarded
  split
  next => exact h.keeps_clearCleanup
  next => exact h.keeps_clearCleanup
  next a hcls hstart =>
    split
    next => exact h.keeps_clearCleanup.bind fun h => h.keeps_endProgram fun hcom => (hc hcom a hstart).1 (.inl hcls)
    next => exact h.keeps_clearCleanup
  next a hcls hstart =>
    refine h.keeps_clearCleanup.bind fun h => h.keeps_endErase fun hcom g hg => ?_
    rw [List.mem_singleton.1 hg]
    exact (hc hcom a hstart).1 (.inr hcls)
  next a hcls hstart =>
    exact h.keeps_clearCleanup.bind fun h => h.keeps_endErase fun hcom => (hc hcom a hstart).2 hcls
  next => exact h.keeps_self

theorem ReadyLaw.kept_endForwarded (h : ReadyLaw s) (hd : s.trc.txn.disposition = some .forward) :
    Kept s (endForwarded s.trc.txn (closeTxn s)) :=
  h.kept_closeTxn.bind fun ht => ht.keeps_endForwarded fun hc => h.noWrite hc hd

end

end Sys2Proof.Machine
end

section
/-!
PROOF. The fourth law at every command and every step.
-/

namespace Sys2Proof.Machine

section

variable {s t : State}

/-- A command that leaves a state behind it keeps the law where that state does. -/
theorem Kept.of_next {u : State} (k : Kept s u) (hx : (.next u : Host.Outcome State Fault Refusal) = .next t) :
    Kept s t := Host.Outcome.next.inj hx ▸ k

/-! ### Upstream transactions (spec 01, 02) -/

theorem ReadyLaw.kept_ucsAsserted (h : ReadyLaw s) (hx : exec .ucsAsserted s = .next t) : Kept s t := by
  refine Kept.of_next ?_ hx
  split
  next => exact h.kept_self
  next =>
    split
    next =>
      have hscan : (s.scan.map fun c => { c with held := none }).map ScanContext.ref = s.scan.map ScanContext.ref := by
        rw [Option.map_map]; rfl
      refine Tracked.kept_of_undecided (SameTracker.tracked ?_ h.tracked) rfl rfl rfl rfl
      exact ⟨rfl, .inl rfl, id, rfl, rfl, rfl, fun _ => id, rfl, rfl, hscan⟩
    next =>
      refine Tracked.kept_of_undecided (SameTracker.tracked ?_ h.tracked) rfl rfl rfl rfl
      exact .of_blocks rfl rfl rfl rfl

/-- R1, R3: a class that carries an address is entered at its command byte and decided with the address. -/
theorem ReadyLaw.kept_addressed (h : ReadyLaw s) {c : CmdClass} {code : Byte} {f : Addr → State}
    (hf : deciding s c code = true → ∀ a, Kept s (f a)) (a : Option Addr) :
    Kept s (if deciding s c code then match a with
      | some a => f a
      | none => enterClass c s
    else s) := by
  split
  next hd =>
    cases a
    case some a => exact hf hd a
    case none => exact h.kept_enterClass hd c
  next => exact h.kept_self

theorem ReadyLaw.kept_eraseAll (h : ReadyLaw s) {code : Byte} (hx : exec (.eraseAll code) s = .next t) : Kept s t := by
  refine Kept.of_next ?_ hx
  split
  next hd => exact h.kept_suppressWrite hd .eraseAll none s.rpu
  next => exact h.kept_self

theorem ReadyLaw.kept_block (h : ReadyLaw s) {code : Byte} (hx : exec (.block code) s = .next t) : Kept s t := by
  refine Kept.of_next ?_ hx
  split
  next hd => exact h.kept_decided hd (d := .suppress) (by simp) ⟨rfl, rfl, rfl, rfl, rfl⟩ rfl
  next => exact h.kept_self

theorem isOpen_of_upstreamHolds (h : upstreamHolds s = true) : s.trc.txn.isOpen = true := (Bool.and_eq_true_iff.1 h).1

theorem ReadyLaw.kept_readGranuleCrossing (h : ReadyLaw s) {within : Option Nat}
    (hx : exec (.readGranuleCrossing within) s = .next t) : Kept s t := by
  refine Kept.of_next ?_ hx
  split
  next a _ =>
    split
    next => exact h.kept_self
    next hholds =>
      have ho := isOpen_of_upstreamHolds (of_not_not hholds)
      split
      next => exact h.kept_sendToCrossing within a fun _ h => h.kept_continueRun ho
      next =>
        split
        next => exact h.kept_sendToCrossing within a fun _ h => h.kept_self
        next => exact h.kept_self
  next => exact h.kept_self

theorem ReadyLaw.kept_reportReadLeavesWindow (h : ReadyLaw s) {within : Option Nat}
    (hx : exec (.reportReadLeavesWindow within) s = .next t) : Kept s t := by
  refine Kept.of_next ?_ hx
  split
  next a hd _ =>
    split
    next hholds =>
      exact h.kept_sendToCrossing within a fun _ h => h.kept_leaveWindow (isOpen_of_upstreamHolds hholds) hd
    next => exact h.kept_self
  next => exact h.kept_self

theorem ReadyLaw.kept_programDataByte (h : ReadyLaw s) {b : Byte} (hx : exec (.programDataByte b) s = .next t) :
    Kept s t := by
  refine Kept.of_next ?_ hx
  split
  next => exact h.kept_self
  next =>
    split
    next => exact (h.tracked.keeps_sendOn b).kept h
    next =>
      split
      next => exact h.kept_dataByte _ _ _ _
      next => exact h.kept_self

theorem ReadyLaw.kept_ucsReleased (h : ReadyLaw s) (hx : exec .ucsReleased s = .next t) : Kept s t := by
  refine Kept.of_next ?_ hx
  split
  next => exact h.kept_self
  next =>
    split
    next =>
      refine Tracked.kept_of_undecided (SameTracker.tracked ?_ h.tracked) rfl rfl rfl rfl
      exact .of_blocks rfl rfl rfl rfl
    next =>
      split
      next hd => exact h.kept_endForwarded hd
      next => exact h.kept_closeTxn

/-! ### The flash port and the scan (spec 01, 06) -/

/-- A change of the flash port, FLASH_BUSY, STUCK or cleanup pending. -/
theorem Tracked.keeps_setTrc (h : Tracked s) {x : Trc} (htxn : x.txn = s.trc.txn) : Keeps s (s.setTrc x) :=
  h.keeps_of_blocks rfl rfl rfl rfl htxn rfl

theorem Tracked.keeps_trackBusy (h : Tracked s) (b : Byte) : Keeps s (trackBusy b s) := by
  rw [trackBusy_eq]; exact h.keeps_of_blocks rfl rfl rfl rfl rfl rfl

theorem Keeps.of_next {u : State} (k : Keeps s u) (hx : (.next u : Host.Outcome State Fault Refusal) = .next t) :
    Keeps s t := Host.Outcome.next.inj hx ▸ k

theorem Tracked.keeps_writeDisableCleanup (h : Tracked s) (hx : exec .writeDisableCleanup s = .next t) : Keeps s t := by
  refine Keeps.of_next ?_ hx
  split
  next =>
    split
    next => exact h.keeps_takePort _
    next => exact h.keeps_self
  next => exact h.keeps_self

theorem Tracked.keeps_cleanupComplete (h : Tracked s) (hx : exec .cleanupComplete s = .next t) : Keeps s t := by
  refine Keeps.of_next ?_ hx
  split
  next => exact h.keeps_setTrc rfl
  next => exact h.keeps_self

theorem Tracked.keeps_statusPoll (h : Tracked s) (hx : exec .statusPoll s = .next t) : Keeps s t := by
  refine Keeps.of_next ?_ hx
  split
  next =>
    split
    next => exact h.keeps_takePort _
    next => exact h.keeps_self
  next => exact h.keeps_self

theorem Tracked.keeps_statusByte (h : Tracked s) {b : Byte} (hx : exec (.statusByte b) s = .next t) : Keeps s t := by
  refine Keeps.of_next ?_ hx
  split
  next =>
    have hreleased : Keeps s (releaseFlash s) := h.keeps_setTrc rfl
    exact (hreleased.bind fun h => h.keeps_trackBusy b).bind fun h => h.keeps_setLgp _
  next =>
    split
    next => exact h.keeps_trackBusy b
    next => exact h.keeps_self

theorem Tracked.keeps_busyLimitExpiry (h : Tracked s) (hx : exec .busyLimitExpiry s = .next t) : Keeps s t := by
  refine Keeps.of_next ?_ hx
  split
  next =>
    split
    next => exact h.keeps_self
    next => exact h.keeps_of_blocks rfl rfl rfl rfl rfl rfl
  next => exact h.keeps_self

theorem Tracked.keeps_scanStart (h : Tracked s) (hx : exec .scanStart s = .next t) : Keeps s t := by
  refine Keeps.of_next ?_ hx
  split
  next hq =>
    split
    next =>
      split
      next hmay => exact h.keeps_takeHead hq (Option.isNone_iff_eq_none.1 (Bool.and_eq_true_iff.1 hmay).1) _ _
      next => exact h.keeps_self
    next => exact h.keeps_self
  next => exact h.keeps_self

theorem Tracked.keeps_scanResume (h : Tracked s) (hx : exec .scanResume s = .next t) : Keeps s t := by
  refine Keeps.of_next ?_ hx
  split
  next =>
    split
    next =>
      split
      next => exact h.keeps_takePort _
      next => exact h.keeps_self
    next => exact h.keeps_self
  next => exact h.keeps_self

theorem Tracked.keeps_scanWord (h : Tracked s) {b : Byte} (hx : exec (.scanWord b) s = .next t) : Keeps s t := by
  refine Keeps.of_next ?_ hx
  split
  next hc =>
    split
    next => exact h.keeps_scanByte b hc
    next => exact h.keeps_self
  next => exact h.keeps_self

theorem Tracked.keeps_scanComplete (h : Tracked s) {b : Byte} (hx : exec (.scanComplete b) s = .next t) :
    Keeps s t := by
  refine Keeps.of_next ?_ hx
  split
  next hc =>
    split
    next => exact h.keeps_scanByte b hc
    next => exact h.keeps_self
  next => exact h.keeps_self

/-! ### The journal (spec 07) -/

theorem Tracked.keeps_journalPollTimeout (h : Tracked s) (hx : exec .journalPollTimeout s = .next t) : Keeps s t := by
  refine Keeps.of_next ?_ hx
  split
  next =>
    split
    next => exact h.keeps_self
    next => exact (h.keeps_elapseTo _).bind fun h => h.keeps_writeFails _ _
  next => exact h.keeps_self

theorem Tracked.keeps_revertRetry (h : Tracked s) (hx : exec .revertRetry s = .next t) : Keeps s t := by
  refine Keeps.of_next ?_ hx
  split
  next => exact (h.keeps_elapseTo _).bind Tracked.keeps_writeRevert
  next => exact h.keeps_self

theorem Tracked.keeps_mrstRelease (h : Tracked s) (hx : exec .mrstRelease s = .next t) : Keeps s t := by
  refine Keeps.of_next ?_ hx
  split
  next =>
    dsimp only
    split
    next => exact h.keeps_boot _ _ _
    next => exact h.keeps_boot _ _ _
  next => exact h.keeps_self

theorem Tracked.keeps_confirmTimerExpiry (h : Tracked s) (hx : exec .confirmTimerExpiry s = .next t) : Keeps s t := by
  refine Keeps.of_next ?_ hx
  split
  next => exact (h.keeps_boot _ _ _).bind Tracked.keeps_trialStart
  next => exact h.keeps_self

/-! ### The start-up (spec 08) -/

/-- R141: the start values of every block, in STARTING. -/
theorem tracked_of_start (hstm : t.stm = Stm.start) (hckt : t.ckt = Ckt.start) (hscan : t.scan = none)
    (hp : t.sup.part = .starting) (hstep : t.sup.step ≠ .finished) : Tracked t where
  standing := {
    starting := by simp [hp, hstep]
    held := fun _ => hp
    components := fun cs hcs => by simp [hstm, Stm.start] at hcs
    declared := fun p hm => by simp [chunkStates, hckt, Ckt.start] at hm }
  order := by simpa [InOrder, chunkStates, hckt, hscan, Ckt.start] using ledger_nil (served t)
  good := fun hr => by simp [hstm, Stm.start] at hr

/-- A start-up from the start values (R141). -/
theorem kept_of_start (htxn : t.trc = Trc.start) (hstm : t.stm = Stm.start) (hckt : t.ckt = Ckt.start)
    (hscan : t.scan = none) (hp : t.sup.part = .starting) (hstep : t.sup.step ≠ .finished) : Kept s t where
  law := (tracked_of_start hstm hckt hscan hp hstep).readyLaw_of_undecided (by rw [htxn]; rfl) (by rw [htxn]; rfl)
    (by rw [htxn]; rfl)
  committing hc := by simp [hstm, Stm.start] at hc

theorem kept_powerOn (hx : exec .powerOn s = .next t) : Kept s t := by
  rw [powerOnGivesStartValues s] at hx
  refine Kept.of_next (kept_of_start rfl rfl rfl rfl rfl ?_) hx
  dsimp only
  split <;> simp

theorem ReadyLaw.kept_rstinAsserted (h : ReadyLaw s) (hx : exec .rstinAsserted s = .next t) : Kept s t := by
  refine Kept.of_next ?_ hx
  split
  next => exact h.kept_self
  next => exact kept_of_start rfl rfl rfl rfl rfl (by simp [post_eq, startValues])

theorem Tracked.keeps_beginSequence (h : Tracked s) (hp : s.sup.part = .starting) : Keeps s (beginSequence s) := by
  unfold beginSequence
  split
  next => exact (h.keeps_setBsv _).bind fun h => h.keeps_goTo (by exact hp) (by simp)
  next => exact h.keeps_goTo hp (by simp)

theorem Tracked.keeps_rstinReleased (h : Tracked s) (hx : exec .rstinReleased s = .next t) : Keeps s t := by
  refine Keeps.of_next ?_ hx
  split
  next hr =>
    have hp := h.standing.held hr
    have hstep := h.standing.starting.1 hp
    exact (h.keeps_startUpStep hp (x := { s.sup with rstin := false }) rfl (by simp) hstep).bind fun h =>
      h.keeps_beginSequence hp
  next => exact h.keeps_self

theorem Tracked.keeps_presenceCheck (h : Tracked s) {b : Byte} (hx : exec (.presenceCheck b) s = .next t) :
    Keeps s t := by
  refine Keeps.of_next ?_ hx
  split
  next => exact h.keeps_self
  next hstep =>
    have hp := h.starting_of_step (by rw [of_not_not hstep]; simp)
    split
    next => exact h.keeps_presenceKnown hp _
    next =>
      split
      next => exact h.keeps_presenceKnown hp _
      next => exact h.keeps_of_blocks rfl rfl rfl rfl rfl rfl

theorem Tracked.keeps_presenceTimeout (h : Tracked s) (hx : exec .presenceTimeout s = .next t) : Keeps s t := by
  refine Keeps.of_next ?_ hx
  split
  next =>
    split
    next hstep =>
      have hp := h.starting_of_step (by rw [hstep]; simp)
      exact (h.keeps_elapseTo _).bind fun h => h.keeps_presenceKnown hp _
    next => exact h.keeps_self
  next => exact h.keeps_self

/-- R136 to R140: a verdict touches the settings, the profile state and the event list. -/
theorem applyVerdict_frame (v : ProfileVerdict) (absent : Bool) (s : State) :
    (applyVerdict v absent s).trc = s.trc ∧ (applyVerdict v absent s).stm = s.stm ∧
      (applyVerdict v absent s).ckt = s.ckt ∧ (applyVerdict v absent s).scan = s.scan ∧
      (applyVerdict v absent s).sup = s.sup := by
  cases v <;> exact ⟨rfl, rfl, rfl, rfl, rfl⟩

/-- R18, R136: new settings come into force in STARTING alone, where no transaction has a disposition. -/
theorem ReadyLaw.kept_profileLoad (h : ReadyLaw s) {image : List Byte} (hx : exec (.profileLoad image) s = .next t) :
    Kept s t := by
  refine Kept.of_next ?_ hx
  split
  next => exact h.kept_self
  next hstep =>
    have hp := h.tracked.starting_of_step (by rw [of_not_not hstep]; simp)
    obtain ⟨hd, hc⟩ := h.startUp hp
    obtain ⟨hr, -⟩ := h.of_undecided hd
    have hloaded (v : ProfileVerdict) (absent : Bool) : Kept s (startStatusCheck (applyVerdict v absent s)) := by
      obtain ⟨htrc, hstm, hckt, hscan, hsup⟩ := applyVerdict_frame v absent s
      have hsame : SameTracker s (startStatusCheck (applyVerdict v absent s)) := .of_blocks hsup hstm hckt hscan
      refine (hsame.tracked h.tracked).kept_of_undecided ?_ ?_ ?_ hsame.setState
      all_goals simp [startStatusCheck, htrc, hd, hr, hc]
    have hpart (v : ProfileVerdict) (absent : Bool) :
        (startStatusCheck (applyVerdict v absent s)).sup.part = .starting := by
      rw [← hp, ← (applyVerdict_frame v absent s).2.2.2.2]; rfl
    split
    next => exact (hloaded _ _).bind fun h => h.keeps_goTo (hpart _ _) (by simp)
    next => exact ((hloaded _ _).bind fun h => h.keeps_post _ _).bind fun h => h.keeps_goTo (hpart _ _) (by simp)

theorem Tracked.keeps_journalRead (h : Tracked s) {image : List Byte} (hx : exec (.journalRead image) s = .next t) :
    Keeps s t := by
  refine Keeps.of_next ?_ hx
  split
  next hstep =>
    have hp := h.starting_of_step (by rw [hstep]; simp)
    have hread := h.keeps_applyJournal (winningEntry (pulledUp 1024 image))
    exact hread.bind fun h => h.keeps_accountTrial (hread.part.trans hp)
  next => exact h.keeps_self

theorem Tracked.keeps_rebuildReadDone (h : Tracked s) {bytes : List Byte}
    (hx : exec (.rebuildReadDone bytes) s = .next t) : Keeps s t := by
  refine Keeps.of_next ?_ hx
  split
  next =>
    split
    next => exact h.keeps_readSector _
    next => exact h.keeps_rebuildRecordAt _
  next => exact h.keeps_self

theorem Tracked.starting_of_rebuildMayRead (h : Tracked s) (hm : rebuildMayRead s = true) : s.sup.part = .starting := by
  have hstep : s.sup.step = .rebuild := by
    simp only [rebuildMayRead, Bool.and_eq_true, beq_iff_eq] at hm
    exact hm.1.1
  exact h.starting_of_step (by rw [hstep]; simp)

theorem Tracked.keeps_rebuildComplete (h : Tracked s) {kinds : List Byte}
    (hx : exec (.rebuildComplete kinds) s = .next t) : Keeps s t := by
  refine Keeps.of_next ?_ hx
  split
  next hmay =>
    simp only [Bool.and_eq_true] at hmay
    obtain ⟨⟨⟨hread, -⟩, -⟩, -⟩ := hmay
    have hp := h.starting_of_rebuildMayRead hread
    have hsettled {s : State} (h : Tracked s) (hp : s.sup.part = .starting) : Keeps s (goTo .release (settleSet s)) :=
      (h.keeps_settleSet hp).bind fun h' => h'.keeps_goTo ((h.keeps_settleSet hp).part.trans hp) (by simp)
    exact (h.keeps_setLgp _).bind fun h => hsettled h hp
  next => exact h.keeps_self

/-- R93: on entry into RUN the queue is filled, on entry into DEGRADED it stays empty. -/
theorem fillQueue_eq (s : State) : fillQueue s = { s with ckt := { s.ckt with
    queue := if served s then ((chunkStates s).filter fun p => p.2 = .dirty).map Prod.fst else s.ckt.queue } } := by
  have hdirty : ((chunkStates s).filter fun p => p.2 = .dirty).map Prod.fst =
      (s.ckt.chunks.filter fun c => c.state = .dirty).map Chunk.ref := by
    rw [chunkStates, List.filter_map, List.map_map]; rfl
  rw [hdirty]
  unfold fillQueue
  split <;> rfl

/-- R143: the part leaves STARTING, with the set and its chunks as they are. -/
theorem Tracked.tracked_fillQueue (h : Tracked s) (hp : s.sup.part = .starting) (hstm : t.stm = s.stm)
    (hckt : t.ckt = s.ckt) (hscan : t.scan = s.scan) (hpart : t.sup.part ≠ .starting) (hstep : t.sup.step = .finished)
    (hrstin : t.sup.rstin = false) : Tracked (fillQueue t) := by
  have hchunks : chunkStates t = chunkStates s := by rw [chunkStates, hckt]; rfl
  have horder : Ledger false (chunkStates t) t.ckt.queue (t.scan.map ScanContext.ref) := by
    rw [hchunks, hckt, hscan, ← served_eq_false_of_starting hp]; exact h.order
  rw [fillQueue_eq]
  refine ⟨⟨by simp [hpart, hstep], by simp [hrstin], ?_, fun p hm => ?_⟩, horder.filled (served t), fun hg p hm => ?_⟩
  · rw [hstm]; exact h.standing.components
  · simpa [componentAt, hstm] using h.standing.declared p (hchunks ▸ hm)
  · exact h.good (hstm ▸ hg) p (hchunks ▸ hm)

theorem ReadyLaw.kept_releaseStep (h : ReadyLaw s) (hx : exec .releaseStep s = .next t) : Kept s t := by
  refine Kept.of_next ?_ hx
  split
  next => exact h.kept_self
  next hgo =>
    obtain ⟨hstep, hrstin⟩ := not_or.1 hgo
    have hp := h.tracked.starting_of_step (by rw [of_not_not hstep]; simp)
    obtain ⟨hd, hc⟩ := h.startUp hp
    obtain ⟨hr, -⟩ := h.of_undecided hd
    have hfilled {u : State} (htrc : u.trc = s.trc) (hstm : u.stm = s.stm) (hckt : u.ckt = s.ckt)
        (hscan : u.scan = s.scan) (hpart : u.sup.part ≠ .starting) (hdone : u.sup.step = .finished)
        (hrst : u.sup.rstin = s.sup.rstin) : Kept s (fillQueue u) := by
      have hlow : u.sup.rstin = false := by simpa [hrst] using hrstin
      refine (h.tracked.tracked_fillQueue hp hstm hckt hscan hpart hdone hlow).kept_of_undecided ?_ ?_ ?_ ?_
      all_goals simp [fillQueue_eq, htrc, hstm, hd, hr, hc]
    dsimp only
    generalize hpart : (if (elapseTo (s.bsv.mrst.getD s.now + 10) s).ppc.profile = .invalid ∨
      (elapseTo (s.bsv.mrst.getD s.now + 10) s).sup.markDegraded = true then PartState.degraded else .run) = part
    have hawake : part ≠ .starting := by
      rw [← hpart]; split <;> simp
    split
    next => exact hfilled rfl rfl rfl rfl hawake rfl rfl
    next => exact hfilled rfl rfl rfl rfl hawake rfl rfl

/-! ### Every command, every step -/

/-- What a record command hands to the Set Manager, COMMIT apart (R47). -/
theorem ReadyLaw.kept_handed (h : ReadyLaw s) {f : State → State} (hf : Keeps s (f s)) : Kept s (handOff f s) :=
  h.kept_handOff fun _ => hf.kept h

theorem ReadyLaw.kept_unknownKind (h : ReadyLaw s) {kind : Byte} {r : Record}
    (hx : exec (.unknownKind kind r) s = .next t) : Kept s t := by
  refine Kept.of_next ?_ hx
  split
  next => exact h.kept_handed (h.tracked.keeps_postWith _ _ _)
  next => exact h.kept_self

theorem ReadyLaw.kept_exec (h : ReadyLaw s) (i : Instr) (hx : exec i s = .next t) : Kept s t := by
  have ht := h.tracked
  cases i
  case ucsAsserted => exact h.kept_ucsAsserted hx
  case read code a => exact (h.kept_addressed (fun hd _ => h.kept_decideRead hd _) a).of_next hx
  case readGranuleCrossing => exact h.kept_readGranuleCrossing hx
  case reportReadLeavesWindow => exact h.kept_reportReadLeavesWindow hx
  case statusRead | writeEnable | writeDisable | pass => exact (h.kept_forwardPlain _ _).of_next hx
  case program code a => exact (h.kept_addressed (fun hd _ => h.kept_decideProgram hd _) a).of_next hx
  case erase4k code a => exact (h.kept_addressed (fun hd _ => h.kept_decideErase hd (.inl ⟨rfl, rfl⟩) _) a).of_next hx
  case erase64k code a => exact (h.kept_addressed (fun hd _ => h.kept_decideErase hd (.inr ⟨rfl, rfl⟩) _) a).of_next hx
  case eraseAll => exact h.kept_eraseAll hx
  case block => exact h.kept_block hx
  case programDataByte => exact h.kept_programDataByte hx
  case unknownKind => exact h.kept_unknownKind hx
  case openRecord r => exact (h.kept_handed (ht.keeps_takeOpen r)).of_next hx
  case componentRecord r => exact (h.kept_handed (ht.keeps_takeComponent r)).of_next hx
  case codesRecord r => exact (h.kept_handed (ht.keeps_takeCodes r)).of_next hx
  case closeRecord r => exact (h.kept_handed (ht.keeps_takeClose r)).of_next hx
  case commitRecord r => exact (h.kept_handOff fun happend => h.kept_takeCommit happend r).of_next hx
  case confirmRecord r => exact (h.kept_handed (ht.keeps_takeConfirm r)).of_next hx
  case abandonRecord r => exact (h.kept_handed (ht.keeps_takeAbandon r)).of_next hx
  case clearRecord r => exact (h.kept_handed (ht.keeps_takeClear r)).of_next hx
  case rescanRecord r => exact (h.kept_handed (ht.keeps_takeRescan r)).of_next hx
  case ucsReleased => exact h.kept_ucsReleased hx
  case writeDisableCleanup => exact (ht.keeps_writeDisableCleanup hx).kept h
  case cleanupComplete => exact (ht.keeps_cleanupComplete hx).kept h
  case statusPoll => exact (ht.keeps_statusPoll hx).kept h
  case statusByte => exact (ht.keeps_statusByte hx).kept h
  case busyLimitExpiry => exact (ht.keeps_busyLimitExpiry hx).kept h
  case scanStart => exact (ht.keeps_scanStart hx).kept h
  case scanResume => exact (ht.keeps_scanResume hx).kept h
  case scanWord => exact (ht.keeps_scanWord hx).kept h
  case scanComplete => exact (ht.keeps_scanComplete hx).kept h
  case journalPollTimeout => exact (ht.keeps_journalPollTimeout hx).kept h
  case commitEntryLands => exact ((ht.keeps_landsBy _ ht.keeps_commitLands).kept h).of_next hx
  case attemptEntryLands => exact ((ht.keeps_landsBy _ ht.keeps_attemptLands).kept h).of_next hx
  case confirmationEntryLands => exact ((ht.keeps_landsBy _ ht.keeps_confirmationLands).kept h).of_next hx
  case revertEntryLands => exact ((ht.keeps_landsBy _ ht.keeps_revertLands).kept h).of_next hx
  case commitEntryFails | attemptEntryFails | confirmationEntryFails | revertEntryFails =>
    exact ((ht.keeps_failsByReply _ _).kept h).of_next hx
  case revertRetry => exact (ht.keeps_revertRetry hx).kept h
  case mrstRelease => exact (ht.keeps_mrstRelease hx).kept h
  case confirmTimerExpiry => exact (ht.keeps_confirmTimerExpiry hx).kept h
  case powerOn => exact kept_powerOn hx
  case rstinAsserted => exact h.kept_rstinAsserted hx
  case rstinReleased => exact (ht.keeps_rstinReleased hx).kept h
  case presenceCheck => exact (ht.keeps_presenceCheck hx).kept h
  case presenceTimeout => exact (ht.keeps_presenceTimeout hx).kept h
  case profileLoad => exact h.kept_profileLoad hx
  case journalRead => exact (ht.keeps_journalRead hx).kept h
  case rebuildReadDone => exact (ht.keeps_rebuildReadDone hx).kept h
  case rebuildComplete => exact (ht.keeps_rebuildComplete hx).kept h
  case releaseStep => exact h.kept_releaseStep hx

theorem ReadyLaw.kept_step (h : ReadyLaw s) (hx : step s = .next t) : Kept s t := by
  unfold step at hx
  split at hx
  next i rest _ =>
    have hpopped : Keeps s (s.setPending rest) := h.tracked.keeps_of_blocks rfl rfl rfl rfl rfl rfl
    exact Kept.of_setState_eq (u := s.setPending rest) rfl ((hpopped.kept h).law.kept_exec i hx)
  next => exact ((h.tracked.keeps_elapse 1).kept h).of_next hx

end

/-- Settles O59: each command keeps the law (`ReadyLaw.kept_exec`), and COMMITTING is entered by a COMMIT alone, from
READY. -/
theorem readyLawKept : Obligations.ReadyLawKept := by
  intro s t h hx
  have hkept := h.kept_step hx
  exact ⟨hkept.law, fun hc => (hkept.committing hc).imp_right fun hready => ⟨hready, hkept.law.allGood (.inr hc)⟩⟩

end Sys2Proof.Machine
end

section
/-!
PROOF. The Region Map (spec 02): the lookup by position, and no write into the slot that boots; and the status lines,
with the laws at reset.
-/

namespace Sys2Proof.Machine

/-! ### The lookup (R23, R24) -/

theorem covers_iff (r : Region) (g : Nat) : r.covers g = true ↔ r.base.toNat ≤ g ∧ g ≤ r.limit.toNat := by
  simp [Region.covers]

/-- R23: the winner is a covering entry with no covering entry before it. -/
theorem winner_eq_some_iff (st : Settings) (g : Nat) (r : Region) : winner st g = some r ↔
    ∃ i : Nat, st.regions.toList[i]? = some (some r) ∧ r.covers g = true ∧
      ∀ j < i, ∀ q, st.regions.toList[j]? = some (some q) → ¬ q.covers g = true := by
  have hsome (o : Option Region) :
      (o.bind fun r => if r.covers g then some r else none) = some r ↔ o = some r ∧ r.covers g = true := by
    cases o with
    | none => simp
    | some q =>
      by_cases hq : q.covers g = true
      · simpa [hq] using fun heq => heq ▸ hq
      · simpa [hq] using fun heq => heq ▸ Bool.eq_false_iff.2 hq
  have hnone (o : Option Region) : (o.bind fun r => if r.covers g then some r else none) = none ↔
      ∀ q, o = some q → ¬ q.covers g = true := by
    cases o <;> simp
  simp only [winner, List.findSome?_eq_some_iff, hsome, hnone]
  constructor
  · rintro ⟨first, _, rest, heq, ⟨rfl, hcovers⟩, hfirst⟩
    refine ⟨first.length, by simp [heq], hcovers, fun j hj q hq => ?_⟩
    rw [heq, List.getElem?_append_left hj] at hq
    exact hfirst _ (List.mem_of_getElem? hq) q rfl
  · rintro ⟨i, hi, hcovers, hfirst⟩
    obtain ⟨hlt, hget⟩ := List.getElem?_eq_some_iff.1 hi
    refine ⟨st.regions.toList.take i, some r, st.regions.toList.drop (i + 1), ?_, ⟨rfl, hcovers⟩, fun o ho q hq => ?_⟩
    · rw [← hget, ← List.drop_eq_getElem_cons hlt, List.take_append_drop]
    · obtain ⟨j, hj, hjo⟩ := List.mem_take_iff_getElem.1 ho
      exact hfirst j (by omega) q (by rw [List.getElem?_eq_getElem (by omega), hjo, hq])

theorem lookup_of_uncovered {st : Settings} {g : Nat} (h : winner st g = none) : lookup st g =
    if g < flashGranules st then { kind := .locked, outOfRange := false }
    else { kind := .hidden, outOfRange := true } := by
  simp only [lookup, h]

theorem lookup_of_winner {st : Settings} {g : Nat} {r : Region} (h : winner st g = some r) : lookup st g =
    if (r.kind = .openArea ∨ r.kind = .locked) ∧ flashGranules st ≤ g then { kind := .hidden, outOfRange := true }
    else { kind := r.kind, outOfRange := false } := by
  simp only [lookup, h]

/-- Settles O6, by the position of the winner and the two cases of the lookup. -/
theorem lookupFindsLowestPosition : Obligations.LookupFindsLowestPosition := by
  intro st g
  refine ⟨fun r => ?_, fun hw hg => ?_, fun hw hg => ?_, fun r hw hk hg => ?_, fun r hw hk => ?_⟩
  · simp only [winner_eq_some_iff, covers_iff, and_assoc]
  · rw [lookup_of_uncovered hw, if_pos hg]
  · rw [lookup_of_uncovered hw, if_neg (by omega)]
  · rw [lookup_of_winner hw, if_pos ⟨hk, hg⟩]
  · rw [lookup_of_winner hw, if_neg]
    rintro ⟨hopen, hg⟩
    obtain ⟨hno, hnl⟩ | hlt := hk
    · exact hopen.elim hno hnl
    · omega

/-! ### Writes and the slot that boots (R20, R26 to R28) -/

section

variable {s t : State} {g : Nat} {p : Prop}

/-- R26, R28: a granule in a slot's own range permits a write only while that slot is open. -/
theorem slotOpen_of_writable (hw : GranuleWritable s g p) {n : Slot} (hn : insideSlot s.settings n g = true) :
    SlotOpen s n := by
  obtain ⟨-, hown, hk | ⟨m, hk, hopen⟩ | ⟨hk, -⟩⟩ | ⟨-, -, hout⟩ := hw
  · simp [hown n hn] at hk
  · obtain rfl : n = m := by simpa [hown n hn] using hk
    exact hopen
  · simp [hown n hn] at hk
  · simp [hout n] at hn

/-- R27, R28: an open slot is not the one that boots, and none is open in a trial. -/
theorem outside_of_writable (hw : GranuleWritable s g p) : insideSlot s.settings (bootSlot s) g = false ∧
    (s.bsv.image.boot = .trial → ∀ n, insideSlot s.settings n g = false) := by
  refine ⟨Bool.eq_false_iff.2 fun hin => ?_, fun htrial n => Bool.eq_false_iff.2 fun hin => ?_⟩
  · obtain ⟨hstable, hother, -⟩ := slotOpen_of_writable hw hin
    exact hother (by simp [bootSlot, hstable])
  · simp [(slotOpen_of_writable hw hin).1] at htrial

/-- R3: what a command changes of an undecided transaction it changes at its decision point. -/
theorem eq_of_forwarded {b : Bool} {u : State} (hs : s.trc.txn.disposition ≠ some .forward)
    (ht : t.trc.txn.disposition = some .forward)
    (hx : (.next (if b then u else s) : Host.Outcome State Fault Refusal) = .next t) : b = true ∧ u = t := by
  obtain rfl := Host.Outcome.next.inj hx
  cases b
  · exact absurd ht hs
  · exact ⟨rfl, rfl⟩

theorem abandonOnFull_txn (s : State) : (abandonOnFull s).trc.txn = s.trc.txn := by
  unfold abandonOnFull
  split
  next => rw [enterFrozen_eq]; dsimp only; split <;> rfl
  next => rfl

theorem writable_of_program_forwarded {code : Byte} {a : Addr} (hs : s.trc.txn.disposition ≠ some .forward)
    (ht : t.trc.txn.disposition = some .forward) (hx : exec (.program code (some a)) s = .next t) :
    ∃ p, GranuleWritable s (granuleOf a) p := by
  obtain ⟨hd, rfl⟩ := eq_of_forwarded hs ht hx
  by_cases hpermits : permits s (granuleOf a) (programRuling s a).isNone = true
  · exact ⟨_, (permits_iff s _ _ _ Iff.rfl (of_deciding hd).1).1 hpermits⟩
  · obtain ⟨r, hdecide⟩ := decideProgram_of_not_permits hpermits code
    have hsuppressed : (decideProgram code a s).trc.txn.disposition = some .suppress := by
      rw [hdecide]
      split
      next => rw [abandonOnFull_txn]; rfl
      next => rfl
    simp [hsuppressed] at ht

theorem writable_of_decideErase_forwarded {c : CmdClass} {code : Byte} {a : Addr} {gs : List Nat} {oor : Option Addr}
    (h0 : s.sup.part ≠ .starting) (ht : (decideErase c code a gs oor s).trc.txn.disposition = some .forward) :
    ∀ g ∈ gs, ∃ p, GranuleWritable s g p := by
  by_contra hnot
  push Not at hnot
  obtain ⟨g, hg, hno⟩ := hnot
  rw [decideErase_of_not_writable h0 ⟨g, hg, hno _⟩] at ht
  simp [suppressWrite_eq] at ht

/-- Settles O7: what is forwarded permits a write, and so lies in no slot but an open one. -/
theorem noWriteForwardedIntoBootSlot : Obligations.NoWriteForwardedIntoBootSlot := by
  intro s t code a hs ht gs hgs
  have hwritable : ∀ g ∈ gs, ∃ p, GranuleWritable s g p := by
    obtain ⟨hx, rfl⟩ | ⟨hx, rfl⟩ | ⟨hx, rfl⟩ := hgs
    · intro g hg
      obtain rfl := List.mem_singleton.1 hg
      exact writable_of_program_forwarded hs ht hx
    · obtain ⟨hd, rfl⟩ := eq_of_forwarded hs ht hx
      exact writable_of_decideErase_forwarded (of_deciding hd).1 ht
    · obtain ⟨hd, rfl⟩ := eq_of_forwarded hs ht hx
      exact writable_of_decideErase_forwarded (of_deciding hd).1 ht
  intro g hg
  obtain ⟨p, hw⟩ := hwritable g hg
  exact outside_of_writable hw

end

/-! ### The status lines (R150, R154 to R156) -/

section

variable (s : State)

theorem attention_iff (k : EventKind) : attention k = true ↔ k ∈ [EventKind.suppressedWrite, .blockedCommand,
    .logOutOfOrder, .logNotErased, .logFull, .logCut, .setRejected, .healthBad, .journalFailed, .trialTimeout,
    .trialReverted, .flashStuck, .profileInvalid, .noStore] := by
  cases k <;> decide

theorem awake_iff : awake s = true ↔ s.sup.part ≠ .starting := by simp [awake]

theorem alertAsserted_iff : alertAsserted s = true ↔
    s.sup.part ≠ .starting ∧ ∃ e ∈ s.rpu.events, attention e.kind = true := by
  rw [alertAsserted, Bool.and_eq_true, awake_iff, List.any_eq_true]

/-- R156: a line is low in STARTING and while its source is. -/
theorem awake_and_eq_false_iff (b : Bool) : (awake s && b) = false ↔ s.sup.part = .starting ∨ b = false := by
  rw [Bool.and_eq_false_iff]
  exact or_congr_left (by simp [awake])

/-- R27, R155: the slot that boots. -/
theorem sourceHigh_bootSlot_iff : sourceHigh s .bootSlot = true ↔
    (s.sup.part = .run ∧ s.bsv.image.boot = .trial ∧ s.bsv.image.trial = .slot1) ∨
    (¬ (s.sup.part = .run ∧ s.bsv.image.boot = .trial) ∧ s.bsv.image.committed = .slot1) := by
  by_cases htrial : s.sup.part = .run ∧ s.bsv.image.boot = .trial
  · simp [sourceHigh, bootSlot, htrial]
  · simp only [sourceHigh, bootSlot, if_neg htrial, beq_iff_eq]
    tauto

/-- R102, R155: the Verify Engine reads or is paused exactly while it has a context. -/
theorem sourceHigh_scanning_iff : sourceHigh s .scanning = true ↔ s.scan ≠ none := by
  cases hs : s.scan with
  | none =>
    have hven : venState s = .waiting ∨ venState s = .idle := by
      simp only [venState, hs]; split <;> simp
    obtain hven | hven := hven <;> simp [sourceHigh, hven]
  | some x =>
    have hven : venState s = .reading ∨ venState s = .paused := by
      simp only [venState, hs]; split <;> simp
    obtain hven | hven := hven <;> simp [sourceHigh, hven]

end

/-! ### The laws at reset -/

theorem queueScanLaw_reset : QueueScanLaw State.reset :=
  (tracked_of_start rfl rfl rfl rfl (by simp [State.reset])).queueScanLaw

theorem readyLaw_reset : ReadyLaw State.reset :=
  (kept_of_start (s := State.reset) rfl rfl rfl rfl rfl (by simp [State.reset])).law

theorem eventListLaw_reset : EventListLaw State.reset := by simp [EventListLaw, State.reset, Rpu.start]

theorem lanesLaw_reset : LanesLaw State.reset where
  digest _ hl := by simp [State.reset, Stm.start] at hl
  scan _ hc := by simp [State.reset] at hc
  chunks _ hc := by simp [State.reset, Ckt.start] at hc
  queued _ hr := by simp [State.reset, Ckt.start] at hr

/-- Settles O60: the lines by their sources, and at reset every block has its start values. -/
theorem lawsHoldAtReset : Obligations.LawsHoldAtReset := by
  refine ⟨fun s => ⟨?_, awake_and_eq_false_iff s _, awake_and_eq_false_iff s _, rfl, rfl, beq_iff_eq, beq_iff_eq,
      sourceHigh_bootSlot_iff s, sourceHigh_scanning_iff s, beq_iff_eq, Iff.rfl, ?_⟩,
    eventListLaw_reset, lanesLaw_reset, queueScanLaw_reset, readyLaw_reset, rfl, by simp [State.reset, Bsv.start], rfl,
    rfl, rfl, rfl, rfl, rfl, rfl, rfl⟩
  · simp only [alertAsserted_iff, attention_iff]
  · exact Option.isSome_iff_ne_none

end Sys2Proof.Machine
end

section
/-!
PROOF. The Log Parser's rulings (spec 03): the judgement of a header, the ruling on an append request, and the notices
of erases and programs.
-/

namespace Sys2Proof.Machine

/-! ### Headers (R43) -/

/-- R43: a body fits its cells exactly when it ends within the last of them. -/
theorem cells_eq_iff {cells len : Nat} (h : 1 ≤ cells) :
    cells = (8 + len + 31) / 32 ↔ 8 + len ≤ 32 * cells ∧ 32 * (cells - 1) < 8 + len := by
  omega

section Headers

variable {hdr : List Byte}

theorem headerShape_of_blank (hk : byteAt hdr 0 = 0xFF#8) : headerShape hdr = .torn 1 := by
  simp [headerShape, hk]

theorem headerShape_of_cells (hk : byteAt hdr 0 ≠ 0xFF#8)
    (hc : ¬ (1 ≤ (byteAt hdr 1).toNat ∧ (byteAt hdr 1).toNat ≤ 8)) : headerShape hdr = .torn 1 := by
  have hcells : (byteAt hdr 1).toNat < 1 ∨ 8 < (byteAt hdr 1).toNat := by omega
  simp only [headerShape, hk, hcells, if_true, if_false]

/-- R43: past the kind byte and the cell count the body length decides. -/
theorem headerShape_of_counted (hk : byteAt hdr 0 ≠ 0xFF#8) (h1 : 1 ≤ (byteAt hdr 1).toNat)
    (h8 : (byteAt hdr 1).toNat ≤ 8) : headerShape hdr =
      if 248 < bodyLength hdr ∨ (byteAt hdr 1).toNat ≠ (8 + bodyLength hdr + 31) / 32 then .torn (byteAt hdr 1).toNat
      else .valid (byteAt hdr 1).toNat := by
  have hcells : ¬ ((byteAt hdr 1).toNat < 1 ∨ 8 < (byteAt hdr 1).toNat) := by omega
  simp only [headerShape, hk, hcells, if_false]

theorem judgeHeader_of_torn {n : Nat} (h : headerShape hdr = .torn n) (start : Nat) :
    judgeHeader start hdr = .torn n := by
  simp only [judgeHeader, h]

theorem judgeHeader_of_valid {n : Nat} (h : headerShape hdr = .valid n) (start : Nat) :
    judgeHeader start hdr = if 16384 < start + 32 * n then .torn n else .valid n := by
  simp only [judgeHeader, h]; rfl

end Headers

/-- Settles O20, by the shape of the header: blank, miscounted, of a wrong body length, or sound. -/
theorem headersAreJudgedInOrder : Obligations.HeadersAreJudgedInOrder := by
  rintro start hdr _ _ _ rfl rfl rfl
  refine ⟨fun hk => ?_, fun hk hc => ?_, fun hk h1 h8 hlen => ?_, fun hk h1 h8 hmax hfit hlast => ?_⟩
  · exact judgeHeader_of_torn (headerShape_of_blank hk) start
  · exact judgeHeader_of_torn (headerShape_of_cells hk hc) start
  · refine judgeHeader_of_torn ((headerShape_of_counted hk h1 h8).trans (if_pos ?_)) start
    rw [ne_eq, cells_eq_iff h1, bodyLength]; omega
  · refine judgeHeader_of_valid ((headerShape_of_counted hk h1 h8).trans (if_neg ?_)) start
    rw [ne_eq, cells_eq_iff h1, bodyLength]; omega

/-! ### Append requests (R38, R40, R163) -/

section Appends

variable {s : State} {a : Addr}

/-- R24: a granule under the MANIFEST entry is in range. -/
theorem outOfRange_of_manifest {st : Settings} {g : Nat} (h : (lookup st g).kind = .manifest) :
    (lookup st g).outOfRange = false := by
  cases hw : winner st g with
  | none => rw [lookup_of_uncovered hw] at h ⊢; split at h <;> simp at h
  | some r => rw [lookup_of_winner hw] at h ⊢; split <;> simp_all

theorem appendRuling_of_full (h : s.lgp.appendPoint = 16384) : appendRuling s a = some .logFull := if_pos h

theorem appendRuling_of_out_of_order (h : s.lgp.appendPoint ≠ 16384)
    (ha : a.toNat ≠ areaBase s.settings + s.lgp.appendPoint) : appendRuling s a = some .logOutOfOrder :=
  (if_neg h).trans (if_pos ha)

/-- R38: the last check asks for the clean flag of the sector that holds the append point. -/
theorem appendRuling_of_in_order (h : s.lgp.appendPoint ≠ 16384)
    (ha : a.toNat = areaBase s.settings + s.lgp.appendPoint) {k : Fin 4} (hk : k.val = s.lgp.appendPoint / 4096) :
    appendRuling s a = if s.lgp.clean[k] = true then none else some .logNotErased := by
  have hsector : sectorOfOffset s.lgp.appendPoint = k := Fin.ext (by simp [sectorOfOffset, Fin.ofNat, ← hk])
  simp only [appendRuling, areaSize, h, ha, hsector, ne_eq, not_true_eq_false, if_false, ite_not]

theorem programRuling_of_append (h : IsAppendRequest s a) : programRuling s a = appendRuling s a :=
  if_pos ((asksLog_iff s a).2 h)

/-- R26, R38: on an append request the Log Parser's ruling alone decides. -/
theorem permits_of_append (h : IsAppendRequest s a) (b : Bool) : permits s (granuleOf a) b = b := by
  obtain ⟨hp, hk, hout⟩ := h
  have hforeign : foreignSlot s.settings (granuleOf a) = false :=
    (foreignSlot_eq_false_iff _ _).2 fun n hn => by simp [hout n] at hn
  simp [permits, hp, hforeign, hk]

/-- R40: a permitted append is forwarded with the end of its page as its cut boundary. -/
theorem decideProgram_of_append_permitted (h : IsAppendRequest s a) (hr : appendRuling s a = none) (code : Byte) :
    decideProgram code a s = { s with trc := { s.trc with
      txn := { s.trc.txn with
        cls := some .program, start := some a, running := some a, disposition := some .forward
        cut := some ((a.toNat / 256 + 1) * 256) }
      flash := some (upstreamTxn s code (some a)) } } := by
  have hw : permits s (granuleOf a) (programRuling s a).isNone = true := by
    rw [permits_of_append h, programRuling_of_append h, hr]; rfl
  rw [decideProgram_of_permits hw, if_pos ((asksLog_iff s a).2 h)]; rfl

/-- An append request refused with the event `k`: suppressed, with `k` and then SUPPRESSED_WRITE posted (R8, R38). -/
def appendRefused (s : State) (a : Addr) (k : EventKind) : State :=
  suppressWrite .program (some a) (post k (detailAddr a) s)

/-- R38, R163: a refused append leaves the Log Parser as it stands; on a full log a set may end. -/
theorem decideProgram_of_append_refused (h : IsAppendRequest s a) {k : EventKind} (hr : appendRuling s a = some k)
    (code : Byte) : decideProgram code a s =
      if k = .logFull then abandonOnFull (appendRefused s a k) else appendRefused s a k := by
  have hasks := (asksLog_iff s a).2 h
  have hrange : (lookup (post k (detailAddr a) s).settings (granuleOf a)).outOfRange = false := by
    obtain ⟨-, hk, -⟩ := h
    exact outOfRange_of_manifest hk
  simp only [decideProgram, hasks, if_true, hr, permits_of_append h, Option.isNone_some, Bool.false_eq_true, if_false,
    hrange, postOutOfRange, postRuling, Option.some.injEq, appendRefused]

theorem abandonOnFull_of_not_preparing (h : preparing s.stm.setState = false) : abandonOnFull s = s :=
  if_neg (by simp [h])

theorem abandonOnFull_of_preparing (hp : s.sup.part = .run) (h : preparing s.stm.setState = true) :
    abandonOnFull s = enterFrozen .abandoned s := if_pos ⟨hp, h⟩

end Appends

/-- Settles O17, by the rulings of R38 in order; on a full log the set's state tells whether it is abandoned. -/
theorem appendRequestsAreRuled : Obligations.AppendRequestsAreRuled := by
  intro s code a h happ refused
  have hrefused (k : EventKind) : appendRefused s a k = refused k := by rw [appendRefused, suppressWrite_eq]; rfl
  have hport := upstreamTxn_of_atCommand h (by simp) (some a)
  have hrun : s.sup.part = .run := happ.1
  rw [exec_program_of_atCommand h]
  refine ⟨fun hfull hprep => ?_, fun hfull hprep => ?_, fun hroom ha => ?_, fun hroom ha k hk hclean => ?_,
    fun hroom ha k hk hclean => ?_⟩
  · rw [decideProgram_of_append_refused happ (appendRuling_of_full hfull), if_pos rfl,
      abandonOnFull_of_not_preparing (s := appendRefused s a .logFull) hprep, hrefused]
  · rw [decideProgram_of_append_refused happ (appendRuling_of_full hfull), if_pos rfl,
      abandonOnFull_of_preparing (s := appendRefused s a .logFull) hrun hprep, hrefused, enterFrozen_eq]
    rfl
  · rw [decideProgram_of_append_refused happ (appendRuling_of_out_of_order hroom ha), if_neg (by simp), hrefused]
  · have hr := appendRuling_of_in_order hroom ha hk
    rw [hclean, if_neg (by simp)] at hr
    rw [decideProgram_of_append_refused happ hr, if_neg (by simp), hrefused]
  · have hr := appendRuling_of_in_order hroom ha hk
    rw [if_pos hclean] at hr
    rw [decideProgram_of_append_permitted happ hr, hport]

/-! ### Erase and program notices (R49, R50, R75) -/

section Notices

variable (s : State) (gs : List Nat)

/-- R49: whether an erase of the granules `gs` resets the log: sector 0 is among them, under the MANIFEST entry. -/
def resetsLog : Bool := gs.any fun g => sectorOf s.settings g = some 0 ∧ (lookup s.settings g).kind = .manifest

theorem resetsLog_iff : resetsLog s gs = true ↔
    ∃ g ∈ gs, sectorOf s.settings g = some 0 ∧ (lookup s.settings g).kind = .manifest := by
  simp [resetsLog]

/-- R49: the sector-clean flags after an erase of the granules `gs`. -/
def cleanAfterErase : Vector Bool 4 := Vector.ofFn fun k =>
  if coveredSector s gs k then true
  else if resetsLog s gs then s.lgp.clean[k] && decide (s.lgp.appendPoint ≤ k.val * 4096)
  else s.lgp.clean[k]

theorem cleanAfterErase_iff (k : Fin 4) : (cleanAfterErase s gs)[k] = true ↔
    (∃ g ∈ gs, sectorOf s.settings g = some k) ∨
      (s.lgp.clean[k] = true ∧ (resetsLog s gs = false ∨ s.lgp.appendPoint ≤ k.val * 4096)) := by
  have hcovered : coveredSector s gs k = true ↔ ∃ g ∈ gs, sectorOf s.settings g = some k := by simp [coveredSector]
  rw [← hcovered]
  cases hc : coveredSector s gs k <;> cases hr : resetsLog s gs <;> simp [cleanAfterErase, hc, hr]

theorem noticeLogErase_eq : noticeLogErase gs s =
    let t := s.setLgp { s.lgp with clean := cleanAfterErase s gs }
    if resetsLog s gs then enterIdle (t.setLgp { t.lgp with appendPoint := 0, buffer := [], phase := .awaitingHeader })
    else t := rfl

/-- R50: a program under the MANIFEST entry's ruling, or outside the area, leaves the flags alone. -/
theorem noticeLogProgram_of_own {page : Nat}
    (h : sectorOf s.settings (page / 4096) = none ∨ (lookup s.settings (page / 4096)).kind = .manifest) :
    noticeLogProgram page s = s := by
  unfold noticeLogProgram
  obtain h | h := h
  · simp only [h]
  · simp only [h, if_true]; split <;> rfl

theorem noticeLogProgram_of_foreign {page : Nat} {k : Fin 4} (hk : sectorOf s.settings (page / 4096) = some k)
    (h : (lookup s.settings (page / 4096)).kind ≠ .manifest) :
    noticeLogProgram page s = s.setLgp { s.lgp with clean := s.lgp.clean.set k false } := by
  simp only [noticeLogProgram, hk, h, if_false]

end Notices

/-- Settles O23: the flags are `cleanAfterErase`, and a log reset enters IDLE besides. -/
theorem logNoticesMoveTheFlags : Obligations.LogNoticesMoveTheFlags := by
  refine ⟨fun s gs reset hreset => ?_, fun s page => ⟨fun k hk hkind => ?_, noticeLogProgram_of_own s⟩⟩
  · obtain rfl : resetsLog s gs = reset := Bool.eq_iff_iff.2 ((resetsLog_iff s gs).trans hreset.symm)
    refine ⟨cleanAfterErase s gs, cleanAfterErase_iff s gs, fun hr => ?_, fun hr => ?_⟩
    · rw [noticeLogErase_eq, hr]; rfl
    · rw [noticeLogErase_eq, hr]; exact enterIdle_eq _
  · rw [noticeLogProgram_of_foreign s hk hkind]; rfl

end Sys2Proof.Machine
end

section
/-!
PROOF. The refusal of stray records (spec 04), and the end of a start-up (spec 03 section 3.5, spec 08): the
completion of the rebuild and the release step.
-/

namespace Sys2Proof.Machine

/-! ### Stray records (R46, R56, R59, R162) -/

/-- R162: a detail of two bytes holds them in bytes 0 and 1. -/
theorem detailBytes_toNat (b0 b1 : Byte) : (detailBytes b0 b1).toNat = b0.toNat + 256 * b1.toNat := by
  simp only [detailBytes, BitVec.toNat_append, BitVec.toNat_ofNat]
  rw [← Nat.shiftLeft_add_eq_or_of_lt b0.isLt, ← Nat.shiftLeft_add_eq_or_of_lt b1.isLt]
  simp [Nat.shiftLeft_eq]; omega

theorem refuseCode_lt (reason : RefuseReason) : refuseCode reason < 256 := by
  cases reason <;> decide

/-- R46, R158: a kind byte that names no kind is refused as it is handed. -/
theorem exec_unknownKind_of_handed {s : State} (h : Handed s) {kind : Byte} (hk : kind.toNat = 0 ∨ 9 < kind.toNat)
    (hff : kind ≠ 0xFF#8) (r : Record) : exec (.unknownKind kind r) s = refusedRecord kind .unknownKind r s := by
  have hexec := exec_recordRow h hff r
  simp only [recordRow, handRecord, recordKindOf_of_unknown hk] at hexec
  exact hexec

section Gate

variable {s : State} {r : Record}

/-- R59: outside RECEIVING the gate is closed. -/
theorem gate_of_not_receiving (h : s.stm.setState ≠ .receiving ∨ s.stm.set = none) : gate r s = .error .wrongState := by
  cases hs : s.stm.set with
  | none => simp only [gate, hs]
  | some cs => simp [gate, hs, h.resolve_right (by simp [hs])]

theorem gate_of_other_sequence {cs : CurrentSet} (hs : s.stm.set = some cs) (hst : s.stm.setState = .receiving)
    (hseq : r.seq ≠ cs.seq) : gate r s = .error .wrongSequence := by
  simp [gate, hs, hst, hseq]

/-- R56, R59: a record that fails the gate is refused with the gate's reason. -/
theorem exec_of_gate_error (h : Handed s) {kind : Byte} {i : Instr}
    (hi : (kind, i) ∈ [(2#8, Instr.componentRecord r), (3#8, .codesRecord r), (4#8, .closeRecord r)])
    {reason : RefuseReason} (hg : gate r s = .error reason) : exec i s = refusedRecord kind reason r s := by
  have hoff (f : State → State) : handOff f s = f s := if_pos (handsRecord_of_handed h)
  simp only [List.mem_cons, Prod.mk.injEq, List.not_mem_nil, or_false] at hi
  obtain ⟨rfl, rfl⟩ | ⟨rfl, rfl⟩ | ⟨rfl, rfl⟩ := hi
  · simp only [exec, execComponentRecord, hoff, takeComponent, hg, refuse_eq]; rfl
  · simp only [exec, execCodesRecord, hoff, takeCodes, hg, refuse_eq]; rfl
  · simp only [exec, execCloseRecord, hoff, takeClose, hg, refuse_eq]; rfl

end Gate

/-- Settles O29: the three kinds that the gate guards share it, and an unknown kind never comes to it. -/
theorem strayRecordsAreRefused : Obligations.StrayRecordsAreRefused := by
  refine ⟨rfl, fun s kind reason r => ⟨_, ?_, rfl⟩, fun s kind r h hk hff => exec_unknownKind_of_handed h hk hff r,
    fun s r kind i h hi => ⟨fun hst => exec_of_gate_error h hi (gate_of_not_receiving hst),
      fun cs hs hst hseq => exec_of_gate_error h hi (gate_of_other_sequence hs hst hseq)⟩⟩
  rw [detailBytes_toNat, byteOf, BitVec.toNat_ofNat, Nat.mod_eq_of_lt (refuseCode_lt reason)]

/-! ### The completion of the rebuild (R54, R77) -/

section Completion

variable {s : State} {kinds : List Byte}

/-- R54: the last sector's kind bytes from the cursor on, none at the area end. -/
theorem kindBytesLeft_of_last {l : Lgp} (h : 12288 ≤ l.cursor) (h' : l.cursor ≤ 16384) :
    kindBytesLeft l = 512 - l.cursor / 32 := by
  unfold kindBytesLeft areaSize; split <;> omega

theorem exec_rebuildComplete_of_mayRead (h : rebuildMayRead s = true) (he : s.lgp.logEnded = true)
    (hc : 12288 ≤ s.lgp.cursor) (hl : kinds.length = kindBytesLeft s.lgp) :
    exec (.rebuildComplete kinds) s = .next (goTo .release (settleSet (s.setLgp { s.lgp with
      clean := Vector.ofFn (sectorFound s.lgp kinds), pollOwed := false }))) := by
  simp [exec, execRebuildComplete, h, he, lastSector, hc, hl]

theorem sectorFound_iff (l : Lgp) (kinds : List Byte) (k : Fin 4) :
    (Vector.ofFn (sectorFound l kinds))[k] = true ↔ (k.val + 1) * 4096 ≤ l.appendPoint ∨
      (k.val = 3 ∧ ∀ b ∈ kinds, b = 0xFF#8) ∨ (k.val < 3 ∧ l.clean[k] = true) := by
  have hvec : (Vector.ofFn (sectorFound l kinds))[k] = sectorFound l kinds k := by simp
  rw [hvec, sectorFound, Bool.or_eq_true, decide_eq_true_iff]
  refine or_congr_right ?_
  by_cases hk : k.val = 3
  · simp [hk, allBlank]
  · simp [hk, show k.val < 3 by omega]

/-- R77: the set with its rebuild class dropped, and its reason too where it was REJECTED or ABANDONED. -/
def settledStm (m : Stm) (cs : CurrentSet) (x : SetState) : Stm := { m with
  setState := x, set := some { cs with rebuildClass := none }
  reason := if m.setState = .rejected ∨ m.setState = .abandoned then none else m.reason }

theorem settleSet_of_none (hs : s.stm.set = none) : settleSet s = setSetState .idle s := by
  simp only [settleSet, hs]

theorem settleSet_of_unrecognized {cs : CurrentSet} (hs : s.stm.set = some cs)
    (hc : cs.rebuildClass = none ∨ cs.rebuildClass = some .unrecognized) :
    settleSet s = s.setStm { s.stm with set := some { cs with rebuildClass := none } } := by
  obtain hc | hc := hc <;> simp only [settleSet, hs, hc]

/-- R77: a set that the journal knows settles in the state of its class. -/
theorem settleSet_of_known {cs : CurrentSet} {x : SetState} (hs : s.stm.set = some cs)
    (hc : (cs.rebuildClass, x) ∈ [(some RebuildClass.installed, SetState.installed), (some .trial, .trial)]) :
    settleSet s = s.setStm (settledStm s.stm cs x) := by
  simp only [List.mem_cons, Prod.mk.injEq, List.not_mem_nil, or_false] at hc
  obtain ⟨hc, rfl⟩ | ⟨hc, rfl⟩ := hc
  all_goals
    simp only [settleSet, hs, hc, settledStm, State.setStm_stm]
    by_cases hst : s.stm.setState = .rejected ∨ s.stm.setState = .abandoned
    · simp only [hst, if_true]; rfl
    · simp only [hst, if_false]; rfl

theorem settleSet_of_reverted {cs : CurrentSet} (hs : s.stm.set = some cs) (hc : cs.rebuildClass = some .reverted) :
    settleSet s = purge (s.setStm (settledStm s.stm cs .reverted)) := by
  simp only [settleSet, hs, hc, settledStm, State.setStm_stm, enterFrozen]
  by_cases hst : s.stm.setState = .rejected ∨ s.stm.setState = .abandoned
  · simp only [hst, if_true]; rfl
  · simp only [hst, if_false]; rfl

end Completion

/-! ### The release step (R93, R126, R143) -/

section Release

variable {s t : State} {part : PartState}

/-- R143: the state the part leaves STARTING in, before its queue is filled. -/
def released (part : PartState) (t : State) : State := { t with
  sup := { t.sup with part := part, step := .finished }
  bsv := { t.bsv with
    mrst := none, releaseDue := none
    confirmTimer := if part = .run ∧ t.bsv.image.boot = .trial then some (2 ^ t.settings.confirmExp * 250) else none } }

/-- R126: the confirm timer starts under the condition `p` and stops otherwise. -/
theorem startTimer_or_stopTimer_eq (p : Prop) [Decidable p] (u : State) : (if p then startTimer u else stopTimer u) = { u with
    bsv := { u.bsv with confirmTimer := if p then some (2 ^ u.settings.confirmExp * 250) else none } } := by
  split <;> rfl

theorem exec_releaseStep_of_release (hstep : s.sup.step = .release) (hrstin : s.sup.rstin = false)
    (ht : t = elapse (s.bsv.mrst.getD s.now + 10 - s.now) s)
    (hpart : part = if s.ppc.profile = .invalid ∨ s.sup.markDegraded = true then PartState.degraded else .run) :
    exec .releaseStep s = .next (fillQueue (released part t)) := by
  subst ht hpart
  have hgo : ¬ (s.sup.step ≠ .release ∨ s.sup.rstin = true) := by simp [hstep, hrstin]
  exact congrArg _ ((if_neg hgo).trans (congrArg fillQueue (startTimer_or_stopTimer_eq _ _)))

/-- R93: the queue is filled on entry into RUN with a live set. -/
theorem fillQueue_released (part : PartState) (t : State) : fillQueue (released part t) = { released part t with
    ckt := { t.ckt with queue := if part = .run ∧ liveState t.stm.setState = true then
      (t.ckt.chunks.filter fun c => c.state = .dirty).map Chunk.ref else t.ckt.queue } } := by
  have hserved : served (released part t) = true ↔ part = .run ∧ liveState t.stm.setState = true := by
    simp [served, released]
  unfold fillQueue
  simp only [hserved]
  split <;> rfl

end Release

/-- Settles O55: the settling of the set class by class, and the release step with its queue filled where it is
served. -/
theorem rebuildSettlesAndReleases : Obligations.RebuildSettlesAndReleases := by
  refine ⟨fun s kinds hstep hf hb he hc hc' hl => ⟨_, sectorFound_iff s.lgp kinds, ?_⟩,
    fun s t part hstep hrstin ht hpart => ?_⟩
  · rw [exec_rebuildComplete_of_mayRead (rebuildMayRead_of_step hstep hf hb) he hc
      (hl.trans (kindBytesLeft_of_last hc hc').symm)]
    refine ⟨fun hs => ?_, fun cs hs => ⟨fun hcls => ?_, fun hcls => ?_, fun hcls => ?_, fun hcls => ?_⟩⟩
    · rw [settleSet_of_none (by exact hs)]; rfl
    · rw [settleSet_of_unrecognized (by exact hs) hcls]; rfl
    · rw [settleSet_of_known (x := .installed) (by exact hs) (by simp [hcls])]; rfl
    · rw [settleSet_of_known (x := .trial) (by exact hs) (by simp [hcls])]; rfl
    · rw [settleSet_of_reverted (by exact hs) hcls, purge_eq]
      simp only [State.setStm_trc, State.setLgp_trc, hf, Option.map_none, reduceCtorEq, if_false]; rfl
  · rw [exec_releaseStep_of_release hstep hrstin ht hpart, fillQueue_released, ht]; rfl

end Sys2Proof.Machine
end

section
/-!
PROOF. The snapshot (spec 09, R152, R161, R162): where the parts of an image stand in the whole, the bytes of each field,
and the statement that every field is shown at its offset.
-/

namespace Sys2Proof.Machine

/-! ### What an image shows at an offset -/

section Shows

variable {image bs part : List Byte} {o n : Nat}

theorem showsAt_iff : ShowsAt image o bs ↔ bs <+: image.drop o := by
  rw [ShowsAt, List.prefix_iff_eq_take, eq_comm]

theorem showsAt_self (bs : List Byte) : ShowsAt bs 0 bs := showsAt_iff.2 (List.prefix_refl bs)

theorem ShowsAt.getElem? (h : ShowsAt image o bs) {i : Nat} (hi : i < bs.length) : image[o + i]? = bs[i]? := by
  obtain ⟨rest, hrest⟩ := showsAt_iff.1 h
  rw [← List.getElem?_drop, ← hrest, List.getElem?_append_left hi]

theorem showsAt_of_getElem? (h : ∀ i < bs.length, image[o + i]? = bs[i]?) : ShowsAt image o bs := by
  refine showsAt_iff.2 (List.prefix_iff_getElem?.2 fun i hi => ?_)
  rw [List.getElem?_drop, h i hi, List.getElem?_eq_getElem hi]

theorem ShowsAt.byte {f : Byte} (h : ShowsAt image o [f]) : image[o]? = some f := h.getElem? (i := 0) (by simp)

/-- A part shows in the whole where the parts before it end. -/
theorem ShowsAt.flatten {parts : List (List Byte)} {i base : Nat} (hi : parts[i]? = some part)
    (hbase : ((parts.map List.length).take i).sum = base) (h : ShowsAt part o bs) :
    ShowsAt parts.flatten (base + o) bs := by
  obtain ⟨hlt, rfl⟩ := List.getElem?_eq_some_iff.1 hi
  have hsplit : parts.flatten = (parts.take i).flatten ++ (parts[i] ++ (parts.drop (i + 1)).flatten) := by
    rw [← List.flatten_cons, ← List.drop_eq_getElem_cons, ← List.flatten_append, List.take_append_drop]
  have hlen : (parts.take i).flatten.length = base := by rw [List.length_flatten, ← hbase, List.map_take]
  refine showsAt_iff.2 ((showsAt_iff.1 h).trans ?_)
  rw [hsplit, ← hlen, List.drop_length_add_append, List.drop_append]
  exact List.prefix_append _ _

end Shows

/-! ### Sections and tables of fixed width (R161) -/

section Tables

variable {bs xs : List Byte} {o n i : Nat}

@[simp] theorem length_fit (n : Nat) (bs : List Byte) : (fit n bs).length = n := by
  simp [fit]; omega

/-- R161: beyond its fields a section reads FFh. -/
theorem getElem?_fit (hi : i < n) : (fit n bs)[i]? = some (bs[i]?.getD 0xFF#8) := by
  rw [fit, List.getElem?_take_of_lt hi]
  by_cases hb : i < bs.length
  · simp [List.getElem?_append_left hb, List.getElem?_eq_getElem hb]
  · rw [List.getElem?_append_right (by omega), List.getElem?_replicate_of_lt (by omega),
      List.getElem?_eq_none (by omega)]
    rfl

theorem fit_eq_append (h : bs.length ≤ n) : fit n bs = bs ++ List.replicate (n - bs.length) 0xFF#8 := by
  rw [fit, List.take_of_length_le (by simp; omega)]

theorem ShowsAt.fit (h : ShowsAt bs o xs) (hn : o + xs.length ≤ n) : ShowsAt (Machine.fit n bs) o xs := by
  refine showsAt_of_getElem? fun i hi => ?_
  rw [getElem?_fit (by omega), h.getElem? hi, List.getElem?_eq_getElem hi]; rfl

theorem ShowsAt.fit_of_le (h : ShowsAt bs o xs) (hb : bs.length ≤ n) : ShowsAt (Machine.fit n bs) o xs := by
  refine showsAt_iff.2 ((showsAt_iff.1 h).trans ?_)
  rw [fit_eq_append hb, List.drop_append]
  exact List.prefix_append _ _

theorem showsAt_fit_whole (hx : bs = xs) (h : bs.length ≤ n) : ShowsAt (fit n bs) 0 xs :=
  hx ▸ (showsAt_self bs).fit_of_le h

theorem showsAt_fit_blank {k : Nat} (h : bs.length ≤ o) (hn : o + k ≤ n) :
    ShowsAt (fit n bs) o (List.replicate k 0xFF#8) := by
  refine showsAt_of_getElem? fun i hi => ?_
  rw [List.length_replicate] at hi
  rw [getElem?_fit (by omega), List.getElem?_eq_none (by omega), List.getElem?_replicate_of_lt hi]; rfl

variable {α : Type} {f : α → List Byte} {w m : Nat} {l : List α} {x : α}

theorem sum_lengths_of_width (hw : ∀ x, (f x).length = w) (l : List α) :
    ((l.map f).map List.length).sum = w * l.length := by
  have hconst : List.length ∘ f = fun _ => w := funext hw
  rw [List.map_map, hconst, List.map_const', List.sum_replicate, smul_eq_mul, Nat.mul_comm]

/-- Entry `m` of a table of `w` bytes each stands at `w * m`. -/
theorem showsAt_flatMap (hw : ∀ x, (f x).length = w) (hx : l[m]? = some x) : ShowsAt (l.flatMap f) (w * m) (f x) := by
  obtain ⟨hlt, -⟩ := List.getElem?_eq_some_iff.1 hx
  have hbase : (((l.map f).map List.length).take m).sum = w * m := by
    rw [← List.map_take, ← List.map_take, sum_lengths_of_width hw, List.length_take, Nat.min_eq_left hlt.le]
  rw [List.flatMap_def]
  exact ShowsAt.flatten (by simp [hx]) hbase (showsAt_self _)

theorem length_flatMap_of_width (hw : ∀ x, (f x).length = w) : (l.flatMap f).length = w * l.length := by
  rw [List.flatMap_def, List.length_flatten, sum_lengths_of_width hw]

/-- R161, R162: a section's table shows its entry, and FFh where the list has ended. -/
theorem showsAt_fit_table (hw : ∀ x, (f x).length = w) (hm : w * m + w ≤ n) :
    ShowsAt (fit n (l.flatMap f)) (w * m) (l[m]?.elim (List.replicate w 0xFF#8) f) := by
  cases hx : l[m]? with
  | none =>
    refine showsAt_fit_blank ?_ hm
    rw [length_flatMap_of_width hw]
    exact Nat.mul_le_mul_left w (List.getElem?_eq_none_iff.1 hx)
  | some x => exact (showsAt_flatMap hw hx).fit (by rw [hw]; exact hm)

end Tables

/-! ### The bytes of a number -/

section Bytes

theorem length_lowFirst (n v : Nat) : (lowFirst n v).length = n := by simp [lowFirst]

theorem bytes16_eq (w : Word16) : bytes16 w = lowFirst 2 w.toNat := by
  simp [bytes16, lowFirst, List.range_succ, BitVec.extractLsb', Nat.shiftRight_eq_div_pow]

theorem bytes32_eq (w : Word32) : bytes32 w = lowFirst 4 w.toNat := by
  simp [bytes32, lowFirst, List.range_succ, BitVec.extractLsb', Nat.shiftRight_eq_div_pow]

/-- The low bytes of a number depend on its residue alone. -/
theorem lowFirst_mod (n v : Nat) : lowFirst n (v % 256 ^ n) = lowFirst n v := by
  refine List.map_congr_left fun i hi => BitVec.eq_of_toNat_eq ?_
  have hlt : i < n := List.mem_range.1 hi
  have hpow : (256 : Nat) ^ n = 256 ^ i * 256 ^ (n - i) := by rw [← Nat.pow_add]; congr 1; omega
  have hdvd : 256 ∣ 256 ^ (n - i) := dvd_pow_self 256 (by omega)
  simp only [BitVec.toNat_ofNat, hpow, Nat.mod_mul_right_div_self]
  exact Nat.mod_mod_of_dvd _ hdvd

theorem bytesNat16_eq (n : Nat) : bytesNat16 n = lowFirst 2 n := by
  rw [bytesNat16, bytes16_eq, BitVec.toNat_ofNat]; exact lowFirst_mod 2 n

theorem bytesNat32_eq (n : Nat) : bytesNat32 n = lowFirst 4 n := by
  rw [bytesNat32, bytes32_eq, BitVec.toNat_ofNat]; exact lowFirst_mod 4 n

/-- The bits of a byte that holds four conditions. -/
theorem getLsbD_conditions : ∀ (b0 b1 b2 b3 : Bool) (k : Fin 4),
    (byteOf (bitAt b0 0 + bitAt b1 1 + bitAt b2 2 + bitAt b3 3)).getLsbD k.val = ![b0, b1, b2, b3] k := by
  decide

theorem getLsbD_conditions_above (b0 b1 b2 b3 : Bool) {i : Nat} (hi : 4 ≤ i) :
    (byteOf (bitAt b0 0 + bitAt b1 1 + bitAt b2 2 + bitAt b3 3)).getLsbD i = false := by
  have hbit (b : Bool) (j : Nat) : bitAt b j ≤ 2 ^ j := by cases b <;> simp [bitAt]
  have hlt : bitAt b0 0 + bitAt b1 1 + bitAt b2 2 + bitAt b3 3 < 2 ^ 4 := by
    have h0 := hbit b0 0; have h1 := hbit b1 1; have h2 := hbit b2 2; have h3 := hbit b3 3
    omega
  rw [byteOf, BitVec.getLsbD_ofNat,
    Nat.testBit_lt_two_pow (hlt.trans_le (Nat.pow_le_pow_right (by decide) hi)), Bool.and_false]

end Bytes

/-! ### The sections of the snapshot (R152, R161) -/

section Sections

variable (s : State)

/-- The sections of the report window, in order. -/
def reportSections : List (List Byte) :=
  [fit 0x40 (reportHeader s), fit 0x40 (reportBoot s.bsv), fit 0x40 (entryPairs s.bsv.image),
    s.stm.comps.toList.flatMap reportComponent, fit 0x40 (reportSettings s), reportBadList s,
    fit 0x40 (s.settings.commands.toList.flatMap commandBytes), fit 0x200 (s.rpu.events.flatMap reportEvent),
    fit 0x200 (mapBytes s.ckt.chunks), fit 0x900 []]

/-- The lengths of the sections. -/
def sectionLengths : List Nat := [0x40, 0x40, 0x40, 0x100, 0x40, 0xC0, 0x40, 0x200, 0x200, 0x900]

theorem snapshotOf_eq : snapshotOf s = (reportSections s).flatten := by
  simp [snapshotOf, reportSections]

theorem length_reportComponent (c : Option Component) : (reportComponent c).length = 32 := by
  cases c <;> simp [reportComponent]

theorem lengths_reportSections : (reportSections s).map List.length = sectionLengths := by
  simp [reportSections, sectionLengths, reportBadList, length_flatMap_of_width length_reportComponent]

/-- What a section shows, the snapshot shows where the section stands. -/
theorem showsAt_snapshot {s : State} (i : Nat) {part bs : List Byte} {o offset : Nat}
    (hi : (reportSections s)[i]? = some part) (h : ShowsAt part o bs)
    (ho : offset = (sectionLengths.take i).sum + o) : ShowsAt (snapshotOf s) offset bs := by
  rw [ho, snapshotOf_eq]
  exact h.flatten hi (by rw [lengths_reportSections])

/-! ### The header (R161) -/

/-- The bytes 008h to 00Dh of the current set. -/
def reportSet : Option CurrentSet → List Byte
  | none => [0x00, 0x00, 0xFF, 0xFF, 0xFF, 0xFF]
  | some cs => lowFirst 2 cs.seq.toNat ++
      [byteOf (slotCode cs.target), byteOf cs.chunkExp, byteOf cs.attempts, byteOf cs.compCount]

/-- The bytes 016h to 01Bh of the scan context. -/
def reportScan : Option ScanContext → List Byte
  | none => List.replicate 6 0xFF
  | some x => [byteOf x.ref.comp, 0xFF] ++ lowFirst 2 x.ref.chunk ++ lowFirst 2 x.offset

/-- The fields of the header, in order. -/
def headerFields : List (List Byte) :=
  [[byteOf (partCode s.sup.part), byteOf (profileCode s.ppc.profile), byteOf (setStateCode s.stm.setState),
      byteOf (bootCode s.bsv.image.boot), byteOf (venCode (venState s)),
      ((s.stm.reason.map fun r => byteOf (rejectCode r)).getD 0xFF#8)],
    [reportFlags s], [reportClean s.lgp], reportSet s.stm.set,
    lowFirst 2 s.stm.accepted ++ lowFirst 2 s.lgp.appendPoint ++ lowFirst 2 s.stm.mismatchTotal ++
      lowFirst 2 s.ckt.queue.length,
    reportScan s.scan,
    lowFirst 2 (chunkCount s .uncoded) ++ lowFirst 2 (chunkCount s .erased) ++ lowFirst 2 (chunkCount s .dirty) ++
      lowFirst 2 (chunkCount s .scanning) ++ lowFirst 2 (chunkCount s .good) ++ lowFirst 2 (chunkCount s .bad)]

/-- The lengths of the header's fields. -/
def headerLengths : List Nat := [6, 1, 1, 6, 8, 6, 12]

theorem reportHeader_eq : reportHeader s = (headerFields s).flatten := by
  cases hset : s.stm.set <;> cases hscan : s.scan <;>
    simp [reportHeader, headerFields, reportSet, reportScan, hset, hscan, bytes16_eq, bytesNat16_eq]

theorem lengths_headerFields : (headerFields s).map List.length = headerLengths := by
  have hset : (reportSet s.stm.set).length = 6 := by cases s.stm.set <;> simp [reportSet, length_lowFirst]
  have hscan : (reportScan s.scan).length = 6 := by cases s.scan <;> simp [reportScan, length_lowFirst]
  simp [headerFields, headerLengths, hset, hscan, length_lowFirst]

theorem length_reportHeader : (reportHeader s).length = 0x28 := by
  rw [reportHeader_eq, List.length_flatten, lengths_headerFields]; rfl

theorem showsAt_header {s : State} (i : Nat) {part : List Byte} {offset : Nat}
    (hi : (headerFields s)[i]? = some part) (ho : offset = (headerLengths.take i).sum) :
    ShowsAt (snapshotOf s) offset part := by
  have hfield : ShowsAt (reportHeader s) (offset + 0) part := by
    rw [reportHeader_eq]
    exact (showsAt_self part).flatten hi (by rw [lengths_headerFields, ho])
  exact showsAt_snapshot 0 rfl (hfield.fit_of_le (by rw [length_reportHeader]; decide)) (by simp)

theorem chunkCount_eq (st : ChunkState) :
    chunkCount s st = (s.ckt.chunks.filter fun c => c.state = st).length := List.countP_eq_length_filter

/-- R41: bit `k` of the sector-clean byte. -/
theorem getLsbD_reportClean (l : Lgp) (k : Fin 4) : (reportClean l).getLsbD k.val = reportsClean l k := by
  rw [reportClean, getLsbD_conditions]
  fin_cases k <;> rfl

end Sections

/-! ### The boot section, the pairs and the settings (R160, R161) -/

theorem reportBoot_eq (b : Bsv) : reportBoot b = lowFirst 4 b.image.generation.toNat ++
    [byteOf (bootCode b.image.boot), byteOf (slotCode b.image.committed), byteOf (slotCode b.image.trial),
      byteOf b.image.attempts] ++
    lowFirst 2 b.image.committedSeq.toNat ++ lowFirst 2 b.image.trialSeq.toNat ++
    lowFirst 2 b.image.lastReverted.toNat ++
    [(b.position.map byteOf).getD 0xFF, byteOf b.next, byteOf ((b.inFlight.map fun w => entryKindCode w.kind).getD 0),
      byteOf ((b.demand.map revertCode).getD 0), byteOf (if b.confirmTimer = none then 0 else 1),
      byteOf (restartCode b.restart)] ++
    lowFirst 4 (b.confirmTimer.getD 0xFFFFFFFF) := by
  cases htimer : b.confirmTimer <;> simp [reportBoot, entryHead, bytes16_eq, bytes32_eq, bytesNat32_eq, htimer]

theorem length_reportBoot (b : Bsv) : (reportBoot b).length = 0x18 := by
  simp [reportBoot_eq, length_lowFirst]

theorem pairBytes_eq (p : Pair) : pairBytes p = lowFirst 2 p.ident.toNat ++ lowFirst 4 p.version.toNat := by
  rw [pairBytes, bytes16_eq, bytes32_eq]

theorem length_pairBytes (p : Pair) : (pairBytes p).length = 6 := by
  simp [pairBytes_eq, length_lowFirst]

theorem entryPairs_eq (e : JournalEntry) : entryPairs e =
    e.pairs.toList.flatMap fun p => lowFirst 2 p.ident.toNat ++ lowFirst 4 p.version.toNat := by
  rw [entryPairs, funext pairBytes_eq]

theorem length_entryPairs (e : JournalEntry) : (entryPairs e).length = 0x30 := by
  simp [entryPairs, length_flatMap_of_width length_pairBytes]

/-- The settings at 1C0h, before the region table. -/
def reportScalars (s : State) : List Byte :=
  [byteOf (presenceCode s.ppc.presence), byteOf ((s.ppc.invalid.map invalidCode).getD 0), byteOf s.settings.flashExp,
    byteOf (policyCode s.settings.policy), byteOf s.settings.busyBit, byteOf s.settings.welBit,
    byteOf s.settings.progExp, byteOf s.settings.eraseExp, byteOf s.settings.confirmExp, byteOf s.settings.threshold,
    byteOf (lineSourceCode s.settings.st0), byteOf (lineSourceCode s.settings.st1)] ++ List.replicate 4 0xFF

theorem length_regionBytes (r : Option Region) : (bytes32 (regionItem r)).length = 4 := rfl

theorem reportSettings_eq (s : State) : reportSettings s =
    [reportScalars s, s.settings.regions.toList.flatMap fun r => bytes32 (regionItem r)].flatten := by
  rw [reportSettings, fit_eq_append (by simp)]; simp [reportScalars]

theorem length_reportSettings (s : State) : (reportSettings s).length = 0x40 := by
  simp [reportSettings_eq, reportScalars, length_flatMap_of_width length_regionBytes]

/-! ### Entries of the tables (R161, R162) -/

/-- R161: a component position holds its fields and FFh beyond. -/
theorem reportComponent_some (c : Component) : reportComponent (some c) =
    lowFirst 2 c.ident.toNat ++ lowFirst 4 c.version.toNat ++ lowFirst 4 c.offset ++ lowFirst 4 c.length ++
      lowFirst 4 c.code.toNat ++ lowFirst 2 c.chunkCount ++ lowFirst 2 c.coded ++ [if c.checked then 1 else 0] ++
      List.replicate 9 0xFF := by
  rw [reportComponent, fit_eq_append] <;>
    simp only [bytes16_eq, bytes32_eq, bytesNat16_eq, bytesNat32_eq, List.length_append, length_lowFirst,
      List.length_singleton]
  · cases c.checked <;> rfl
  · decide

/-- R159: a region item's fields from the lowest bit on. -/
theorem toNat_packedItem (slot kind : Nat) (limit base : BitVec 12) :
    (BitVec.ofNat 4 slot ++ BitVec.ofNat 4 kind ++ limit ++ base : BitVec 32).toNat =
      base.toNat + 2 ^ 12 * limit.toNat + 2 ^ 24 * (kind % 16) + 2 ^ 28 * (slot % 16) := by
  simp only [BitVec.toNat_append, BitVec.toNat_ofNat]
  rw [← Nat.shiftLeft_add_eq_or_of_lt base.isLt, ← Nat.shiftLeft_add_eq_or_of_lt limit.isLt,
    ← Nat.shiftLeft_add_eq_or_of_lt (Nat.mod_lt _ (by decide))]
  simp only [Nat.shiftLeft_eq]; omega

/-- R159, log 30: an entry's base, limit, kind and slot number. -/
theorem toNat_regionItem (r : Region) : (regionItem (some r)).toNat =
    r.base.toNat + 2 ^ 12 * r.limit.toNat + 2 ^ 24 * regionKindCode r.kind +
      2 ^ 28 * (if r.kind = .slot .slot1 then 1 else 0) := by
  obtain ⟨kind, base, limit⟩ := r
  cases kind with
  | slot n => cases n <;> exact toNat_packedItem _ _ limit base
  | _ => exact toNat_packedItem _ _ limit base

/-- R162: a BAD chunk's indexes in ten and three bits. -/
theorem reportBad_eq (c : Chunk) : reportBad c =
    lowFirst 2 (c.ref.chunk % 1024 + 1024 * (c.ref.comp % 8)) ++ [byteOf c.mismatches] := by
  have hpack : (BitVec.ofNat 3 0 ++ BitVec.ofNat 3 c.ref.comp ++ BitVec.ofNat 10 c.ref.chunk : Word16).toNat =
      c.ref.chunk % 1024 + 1024 * (c.ref.comp % 8) := by
    simp only [BitVec.toNat_append, BitVec.toNat_ofNat]
    rw [← Nat.shiftLeft_add_eq_or_of_lt (Nat.mod_lt _ (by decide)),
      ← Nat.shiftLeft_add_eq_or_of_lt (Nat.mod_lt _ (by decide))]
    simp only [Nat.shiftLeft_eq]; omega
  rw [reportBad, bytes16_eq, hpack]

theorem length_reportBad (c : Chunk) : (reportBad c).length = 3 := by
  simp [reportBad_eq, length_lowFirst]

theorem length_commandBytes (x : Option CmdEntry) : (commandBytes x).length = 2 := by cases x <;> rfl

theorem reportEvent_eq (x : Event) : reportEvent x =
    [byteOf (eventCode x.kind), if attention x.kind then 1 else 0, byteOf x.count, 0xFF] ++
      lowFirst 2 x.seq.toNat ++ [0xFF, 0xFF] ++ lowFirst 4 x.detail.toNat ++ List.replicate 4 0xFF := by
  cases h : attention x.kind <;> simp [reportEvent, bytes16_eq, bytes32_eq, h] <;> rfl

theorem length_reportEvent (x : Event) : (reportEvent x).length = 16 := by
  simp [reportEvent_eq, length_lowFirst]

/-! ### The chunk state map (R162) -/

theorem chunkStateCode_lt (st : ChunkState) : chunkStateCode st < 16 := by cases st <;> decide

/-- R162: chunk `i` stands in half `i % 2` of byte `i / 2`, low half first; a half without a chunk holds Fh. -/
theorem half_mapBytes : ∀ (cs : List Chunk) (i : Nat),
    ((mapBytes cs)[i / 2]?.getD 0xFF#8).toNat / 16 ^ (i % 2) % 16 =
      (cs[i]?.map fun c => chunkStateCode c.state).getD 15
  | [], i => by
    obtain h | h := Nat.mod_two_eq_zero_or_one i <;> simp [mapBytes, h]
  | [c], 0 => by
    have hc := chunkStateCode_lt c.state
    simp [mapBytes, byteOf]; omega
  | [c], 1 => by
    have hc := chunkStateCode_lt c.state
    simp [mapBytes, byteOf]; omega
  | [c], i + 2 => by
    obtain h | h := Nat.mod_two_eq_zero_or_one i <;> simp [mapBytes, h]
  | c :: d :: rest, 0 => by
    have hc := chunkStateCode_lt c.state
    have hd := chunkStateCode_lt d.state
    simp [mapBytes, byteOf]; omega
  | c :: d :: rest, 1 => by
    have hc := chunkStateCode_lt c.state
    have hd := chunkStateCode_lt d.state
    simp [mapBytes, byteOf]; omega
  | c :: d :: rest, i + 2 => by
    simpa [mapBytes] using half_mapBytes rest i

/-! ### Where each entry stands (R161, R162) -/

section Entries

variable (s : State)

theorem showsAt_component (k : Fin 8) : ShowsAt (snapshotOf s) (0x0C0 + 32 * k.val) (reportComponent s.stm.comps[k]) :=
  showsAt_snapshot 3 rfl (showsAt_flatMap length_reportComponent (by simp)) rfl

theorem showsAt_scalars : ShowsAt (snapshotOf s) 0x1C0 (reportScalars s) := by
  have hfield : ShowsAt (reportSettings s) 0 (reportScalars s) := by
    rw [reportSettings_eq]; exact (showsAt_self _).flatten (i := 0) rfl rfl
  exact showsAt_snapshot 4 rfl (hfield.fit_of_le (length_reportSettings s).le) rfl

theorem showsAt_region (k : Fin 12) :
    ShowsAt (snapshotOf s) (0x1D0 + 4 * k.val) (bytes32 (regionItem s.settings.regions[k])) := by
  have hentry : s.settings.regions.toList[k.val]? = some s.settings.regions[k] := by simp
  have hfield : ShowsAt (reportSettings s) (16 + 4 * k.val) (bytes32 (regionItem s.settings.regions[k])) := by
    rw [reportSettings_eq]
    exact (showsAt_flatMap length_regionBytes hentry).flatten (i := 1) rfl rfl
  exact showsAt_snapshot 4 rfl (hfield.fit_of_le (length_reportSettings s).le) (by simp [sectionLengths]; omega)

theorem showsAt_bad {j : Nat} (hj : j < 64) : ShowsAt (snapshotOf s) (0x200 + 3 * j)
    ((s.ckt.chunks.filter fun c => c.state = .bad)[j]?.elim (List.replicate 3 0xFF#8) reportBad) := by
  rw [← List.getElem?_take_of_lt hj]
  exact showsAt_snapshot 5 rfl (showsAt_fit_table length_reportBad (by omega)) rfl

theorem length_commandTable : (s.settings.commands.toList.flatMap commandBytes).length = 0x30 := by
  simp [length_flatMap_of_width length_commandBytes]

theorem showsAt_command (k : Fin 24) :
    ShowsAt (snapshotOf s) (0x2C0 + 2 * k.val) (commandBytes s.settings.commands[k]) := by
  have hentry : s.settings.commands.toList[k.val]? = some s.settings.commands[k] := by simp
  exact showsAt_snapshot 6 rfl ((showsAt_flatMap length_commandBytes hentry).fit_of_le
    ((length_commandTable s).le.trans (by decide))) rfl

theorem showsAt_event {m : Nat} (hm : m < 32) : ShowsAt (snapshotOf s) (0x300 + 16 * m)
    (s.rpu.events[m]?.elim (List.replicate 16 0xFF#8) reportEvent) :=
  showsAt_snapshot 7 rfl (showsAt_fit_table length_reportEvent (by omega)) rfl

theorem getElem?_map {j : Nat} (hj : j < 0x200) :
    (snapshotOf s)[0x500 + j]? = some ((mapBytes s.ckt.chunks)[j]?.getD 0xFF#8) := by
  have hmap := (showsAt_snapshot (s := s) 8 rfl (showsAt_self _) rfl).getElem? (i := j) (by simpa using hj)
  exact hmap.trans (getElem?_fit hj)

theorem getElem?_beyond {j : Nat} (hj : j < 0x900) : (snapshotOf s)[0x700 + j]? = some 0xFF#8 := by
  have hrest := (showsAt_snapshot (s := s) 9 rfl (showsAt_self _) rfl).getElem? (i := j) (by simpa using hj)
  exact hrest.trans (getElem?_fit hj)

theorem length_snapshotOf : (snapshotOf s).length = 4096 := by
  rw [snapshotOf_eq, List.length_flatten, lengths_reportSections]; rfl

end Entries

/-- Settles O13: each field is a part of its section, and a table's entry stands at its multiple of the width. -/
theorem snapshotIsWhole : Obligations.SnapshotIsWhole := by
  refine ⟨by and_intros <;> rfl, fun s image himage => ?_⟩
  dsimp only
  rw [himage]
  refine ⟨length_snapshotOf s, ?states, ?flags, ?clean, ?noSet, ?set, ?figures, ?noScan, ?scan, ?counts, ?headerEnd,
    ?boot, ?bootEnd, ?pairs, ?pairsEnd, ?components, ?scalars, ?regions, ?bad, ?commands, ?commandsEnd, ?events,
    ?map, ?beyond⟩
  case states => exact showsAt_header 0 rfl rfl
  case flags =>
    exact ⟨reportFlags s, (showsAt_header 1 rfl rfl).byte, getLsbD_conditions _ _ _ _ 0, getLsbD_conditions _ _ _ _ 1,
      getLsbD_conditions _ _ _ _ 2, getLsbD_conditions _ _ _ _ 3, fun i hi => getLsbD_conditions_above _ _ _ _ hi⟩
  case clean =>
    refine ⟨reportClean s.lgp, (showsAt_header 2 rfl rfl).byte, fun k => ?_,
      fun i hi => getLsbD_conditions_above _ _ _ _ hi⟩
    rw [getLsbD_reportClean, reportsClean, Bool.or_eq_true, decide_eq_true_iff]
  case noSet => exact fun hset => showsAt_header 3 (by simp [headerFields, hset, reportSet]) rfl
  case set => exact fun cs hset => showsAt_header 3 (by simp [headerFields, hset, reportSet, byteOf]) rfl
  case figures => exact showsAt_header 4 rfl rfl
  case noScan => exact fun hscan => showsAt_header 5 (by simp [headerFields, hscan, reportScan]) rfl
  case scan => exact fun x hscan => showsAt_header 5 (by simp [headerFields, hscan, reportScan, byteOf]) rfl
  case counts =>
    simp only [← chunkCount_eq]
    exact showsAt_header 6 rfl rfl
  case headerEnd => exact showsAt_snapshot 0 rfl (showsAt_fit_blank (length_reportHeader s).le (by decide)) rfl
  case boot =>
    exact showsAt_snapshot 1 rfl
      (showsAt_fit_whole (reportBoot_eq s.bsv) ((length_reportBoot s.bsv).le.trans (by decide))) rfl
  case bootEnd => exact showsAt_snapshot 1 rfl (showsAt_fit_blank (length_reportBoot s.bsv).le (by decide)) rfl
  case pairs =>
    exact showsAt_snapshot 2 rfl
      (showsAt_fit_whole (entryPairs_eq s.bsv.image) ((length_entryPairs s.bsv.image).le.trans (by decide))) rfl
  case pairsEnd => exact showsAt_snapshot 2 rfl (showsAt_fit_blank (length_entryPairs s.bsv.image).le (by decide)) rfl
  case components =>
    intro k
    have hk := showsAt_component s k
    cases hx : s.stm.comps[k] with
    | none => rw [hx] at hk; exact hk
    | some c => rw [hx, reportComponent_some] at hk; exact hk
  case scalars => exact showsAt_scalars s
  case regions =>
    intro k
    have hk := showsAt_region s k
    cases hx : s.settings.regions[k] with
    | none => rw [hx] at hk; exact hk
    | some r => rw [hx, bytes32_eq, toNat_regionItem] at hk; exact hk
  case bad =>
    intro j hj
    have hk := showsAt_bad s hj
    cases hx : (s.ckt.chunks.filter fun c => c.state = .bad)[j]? with
    | none => rw [hx] at hk; exact hk
    | some c => rw [hx, Option.elim_some, reportBad_eq] at hk; exact hk
  case commands =>
    intro k
    have hk := showsAt_command s k
    cases hx : s.settings.commands[k] <;> rw [hx] at hk <;> exact hk
  case commandsEnd => exact showsAt_snapshot 6 rfl (showsAt_fit_blank (length_commandTable s).le (by decide)) rfl
  case events =>
    intro m hm
    have hk := showsAt_event s hm
    cases hx : s.rpu.events[m]? with
    | none => rw [hx] at hk; exact hk
    | some x => rw [hx, Option.elim_some, reportEvent_eq] at hk; exact hk
  case map => exact fun i hi => ⟨_, getElem?_map s (by omega), half_mapBytes s.ckt.chunks i⟩
  case beyond =>
    intro i hlow hhigh
    obtain ⟨j, rfl⟩ := Nat.exists_eq_add_of_le hlow
    exact getElem?_beyond s (by omega)

end Sys2Proof.Machine
end

section
/-!
PROOF. OPEN records (spec 04 sections 4.2 and 4.9): the live hand-off of a record, the fields an OPEN declares, and the
statements about a live OPEN and an OPEN found at rebuild.
-/

namespace Sys2Proof.Machine

/-! ### The live hand-off (R47, R56) -/

section HandOff

variable {s : State}

/-- R47: a record that can be handed reaches the Set Manager, whatever its kind. -/
theorem exec_of_handed (h : Handed s) {i : Instr} {f : State → State} (hi : exec i s = .next (handOff f s)) :
    exec i s = .next (f s) :=
  hi.trans (congrArg Host.Outcome.next (if_pos (handsRecord_of_handed h)))

theorem exec_openRecord (h : Handed s) (r : Record) : exec (.openRecord r) s = .next (takeOpen r s) :=
  exec_of_handed h rfl

theorem exec_componentRecord (h : Handed s) (r : Record) : exec (.componentRecord r) s = .next (takeComponent r s) :=
  exec_of_handed h rfl

theorem exec_codesRecord (h : Handed s) (r : Record) : exec (.codesRecord r) s = .next (takeCodes r s) :=
  exec_of_handed h rfl

theorem exec_closeRecord (h : Handed s) (r : Record) : exec (.closeRecord r) s = .next (takeClose r s) :=
  exec_of_handed h rfl

theorem exec_commitRecord (h : Handed s) (r : Record) : exec (.commitRecord r) s = .next (takeCommit r s) :=
  exec_of_handed h rfl

theorem exec_confirmRecord (h : Handed s) (r : Record) : exec (.confirmRecord r) s = .next (takeConfirm r s) :=
  exec_of_handed h rfl

theorem exec_abandonRecord (h : Handed s) (r : Record) : exec (.abandonRecord r) s = .next (takeAbandon r s) :=
  exec_of_handed h rfl

theorem exec_clearRecord (h : Handed s) (r : Record) : exec (.clearRecord r) s = .next (takeClear r s) :=
  exec_of_handed h rfl

theorem exec_rescanRecord (h : Handed s) (r : Record) : exec (.rescanRecord r) s = .next (takeRescan r s) :=
  exec_of_handed h rfl

end HandOff

/-! ### The fields of an OPEN (R57 check 4) -/

theorem slotOf_slotCode (n : Slot) : slotOf (slotCode n) = some n := by cases n <;> rfl

theorem exists_slotCode {n : Nat} (h : n ≤ 1) : ∃ target, n = slotCode target := by
  obtain rfl | rfl := Nat.le_one_iff_eq_zero_or_eq_one.1 h
  · exact ⟨.slot0, rfl⟩
  · exact ⟨.slot1, rfl⟩

theorem slotOf_eq_none {n : Nat} (h : 1 < n) : slotOf n = none := by
  unfold slotOf
  split
  · omega
  · omega
  · rfl

/-- The staging slot is the one slot that is not committed. -/
theorem ne_stagingSlot_iff (target : Slot) (s : State) : target ≠ stagingSlot s ↔ target = s.bsv.image.committed := by
  unfold stagingSlot
  cases s.bsv.image.committed <;> cases target <;> decide

/-- The set that an OPEN with these fields declares, with its rebuild class. -/
def openedSet (r : Record) (target : Slot) (count exponent attempts : Byte) (cls : Option RebuildClass) :
    CurrentSet where
  seq := r.seq
  target := target
  chunkExp := exponent.toNat
  attempts := attempts.toNat
  compCount := count.toNat
  rebuildClass := cls

/-- The fields of an OPEN lie in their ranges. -/
def OpenRanges (slot count exponent attempts : Byte) : Prop :=
  slot.toNat ≤ 1 ∧ 1 ≤ count.toNat ∧ count.toNat ≤ 8 ∧ 12 ≤ exponent.toNat ∧ exponent.toNat ≤ 14 ∧
    1 ≤ attempts.toNat ∧ attempts.toNat ≤ 7

section Fields

variable {r : Record} {slot count exponent attempts : Byte}

theorem openFields_of_ranges (hb : r.body = [slot, count, exponent, attempts])
    (hr : OpenRanges slot count exponent attempts) {target : Slot} (ht : slot.toNat = slotCode target) :
    openFields r = some (openedSet r target count exponent attempts none) := by
  obtain ⟨-, hr⟩ := hr
  simp [openFields, byteAt, hb, ht, slotOf_slotCode, hr, openedSet]

theorem openFields_of_not_ranges (hb : r.body = [slot, count, exponent, attempts])
    (hr : ¬ OpenRanges slot count exponent attempts) : openFields r = none := by
  simp only [openFields, byteAt, hb, List.getD_cons_zero, List.getD_cons_succ, Option.bind_eq_none_iff]
  intro target ht
  have hslot : slot.toNat ≤ 1 := by
    by_contra hlt
    simp [slotOf_eq_none (not_le.1 hlt)] at ht
  exact if_neg fun hrest => hr ⟨hslot, hrest⟩

end Fields

/-! ### A live OPEN (R57, R58) -/

section LiveOpen

variable {s : State} {r : Record} {slot count exponent attempts : Byte}

theorem exec_openRecord_of_error (h : Handed s) {e : RefuseReason} (hv : openVerdict r s = .error e) :
    exec (.openRecord r) s = refusedRecord 1 e r s := by
  rw [exec_openRecord h, takeOpen, hv]; rfl

/-- The boot state and the set state allow an OPEN (R57 check 2). -/
def OpenAllowed (s : State) : Prop := s.bsv.image.boot = .stable ∧ settledState s.stm.setState = true

/-- R57: the first three checks passed, the fields' ranges, the slot and the sequences are left. -/
theorem openVerdict_of_allowed (hl : r.body.length = 4) (ha : OpenAllowed s) (hf : s.bsv.inFlight = none) :
    openVerdict r s = match openFields r with
      | none => .error .malformed
      | some cs =>
        if cs.target ≠ stagingSlot s then .error .wrongSlot
        else if ¬ (exceedsJournal s.bsv.image r.seq ∧ s.stm.logHigh < r.seq) then .error .staleSequence
        else .ok cs := by
  obtain ⟨hboot, hset⟩ := ha
  simp only [openVerdict, hl, hboot, hset, hf]
  rfl

theorem exceedsJournal_iff (e : JournalEntry) (seq : Word16) :
    exceedsJournal e seq = true ↔ e.committedSeq < seq ∧ e.trialSeq < seq ∧ e.lastReverted < seq := by
  simp [exceedsJournal, and_assoc]

/-- R57: with the fields in their ranges, the slot and the sequences are left. -/
theorem openVerdict_of_ranges (ha : OpenAllowed s) (hf : s.bsv.inFlight = none)
    (hb : r.body = [slot, count, exponent, attempts]) (hr : OpenRanges slot count exponent attempts) {target : Slot}
    (ht : slot.toNat = slotCode target) :
    openVerdict r s = if target = s.bsv.image.committed then .error .wrongSlot
      else if ¬ (s.bsv.image.committedSeq < r.seq ∧ s.bsv.image.trialSeq < r.seq ∧ s.bsv.image.lastReverted < r.seq ∧
        s.stm.logHigh < r.seq) then .error .staleSequence
      else .ok (openedSet r target count exponent attempts none) := by
  rw [openVerdict_of_allowed (by simp [hb]) ha hf, openFields_of_ranges hb hr ht]
  simp only [openedSet, ne_stagingSlot_iff, exceedsJournal_iff, and_assoc]

/-- Settles O27: each clause is a branch of the verdict, the fields read off the four body bytes. -/
theorem openChecksInOrder : Obligations.OpenChecksInOrder := by
  intro s r h admits
  refine ⟨fun hl => exec_openRecord_of_error h (if_pos hl), ?_⟩
  intro slot count exponent attempts hb ranges exceeds
  refine ⟨fun ha => ?_, fun ha hf => ?_, fun ha hf hr => ?_, fun ha hf hr hslot => ?_, fun ha hf hr hslot hx => ?_⟩
  all_goals apply exec_openRecord_of_error h
  · simp [openVerdict, hb, show ¬ (_ ∧ _) from ha]
  · obtain ⟨hboot, hset⟩ := ha
    simp [openVerdict, hb, hboot, hset, Option.isSome_iff_ne_none.2 hf]
  · rw [openVerdict_of_allowed (by simp [hb]) ha hf, openFields_of_not_ranges hb hr]
  · rw [openVerdict_of_ranges ha hf hb hr hslot, if_pos rfl]
  · obtain ⟨target, ht⟩ := exists_slotCode hr.1
    have hne : target ≠ s.bsv.image.committed := fun he => hslot (he ▸ ht)
    rw [openVerdict_of_ranges ha hf hb hr ht, if_neg hne, if_pos hx]

/-- Settles O28: the verdict passes every check, and the record is accepted. -/
theorem openReplacesTheSet : Obligations.OpenReplacesTheSet := by
  intro s r count exponent attempts slot target h hb ht hne hc1 hc8 he12 he14 ha1 ha7 hboot hset hf hcom htrial hrev
    hlog
  have hslot : slot.toNat ≤ 1 := by rw [ht]; cases target <;> decide
  have hv := openVerdict_of_ranges (s := s) ⟨hboot, hset⟩ hf hb ⟨hslot, hc1, hc8, he12, he14, ha1, ha7⟩ ht
  rw [if_neg hne, if_neg (not_not.2 ⟨hcom, htrial, hrev, hlog⟩)] at hv
  rw [exec_openRecord h, takeOpen, hv]
  exact congrArg Host.Outcome.next (acceptOpen_eq _ r s)

end LiveOpen

/-! ### An OPEN at rebuild (R76) -/

section RebuildOpen

variable {s : State} {r : Record} {slot count exponent attempts : Byte}

theorem rebuildOpen_of_error {e : RefuseReason} (hv : openRebuildVerdict r s = .error e) : rebuildOpen r s = { s with
    rpu := s.rpu.post .recordRefused r.seq (detailBytes 1 (byteOf (refuseCode e))) } := by
  rw [rebuildOpen, hv]; rfl

theorem rebuildOpen_of_ok {cs : CurrentSet} (hv : openRebuildVerdict r s = .ok cs) :
    rebuildOpen r s = acceptOpen cs r s := by
  rw [rebuildOpen, hv]

/-- R76: with the fields in their ranges, the log high sequence and the class decide, and R57's checks for an
unrecognized set. -/
theorem openRebuildVerdict_of_ranges (hb : r.body = [slot, count, exponent, attempts])
    (hr : OpenRanges slot count exponent attempts) {target : Slot} (ht : slot.toNat = slotCode target)
    {cls : RebuildClass} (hcls : classOfSeq s.bsv.image r.seq = cls) :
    openRebuildVerdict r s =
      if ¬ s.stm.logHigh < r.seq then .error .staleSequence
      else if cls ≠ .unrecognized then .ok (openedSet r target count exponent attempts (some cls))
      else if s.bsv.image.boot ≠ .stable then .error .wrongState
      else if s.stm.setState = .trial then .error .wrongState
      else if target = s.bsv.image.committed then .error .wrongSlot
      else if ¬ exceedsJournal s.bsv.image r.seq then .error .staleSequence
      else .ok (openedSet r target count exponent attempts (some cls)) := by
  have hl : ¬ r.body.length ≠ 4 := by simp [hb]
  simp only [openRebuildVerdict, if_neg hl, openFields_of_ranges hb hr ht, openedSet, ne_stagingSlot_iff, hcls]

theorem openRebuildVerdict_of_not_ranges (hb : r.body = [slot, count, exponent, attempts])
    (hr : ¬ OpenRanges slot count exponent attempts) : openRebuildVerdict r s = .error .malformed := by
  simp [openRebuildVerdict, openFields_of_not_ranges hb hr]

end RebuildOpen

section ClassOfSeq

variable {e : JournalEntry} {seq : Word16}

theorem classOfSeq_installed (h : seq ≤ e.committedSeq) : classOfSeq e seq = .installed := if_pos h

theorem classOfSeq_trial (h : e.committedSeq < seq) (ht : e.boot = .trial ∧ seq = e.trialSeq) :
    classOfSeq e seq = .trial := by
  rw [classOfSeq, if_neg (BitVec.not_le.2 h), if_pos ht]

theorem classOfSeq_reverted (h : e.committedSeq < seq) (ht : ¬ (e.boot = .trial ∧ seq = e.trialSeq))
    (hr : seq = e.lastReverted) : classOfSeq e seq = .reverted := by
  rw [classOfSeq, if_neg (BitVec.not_le.2 h), if_neg ht, if_pos hr]

theorem classOfSeq_unrecognized (h : e.committedSeq < seq) (ht : ¬ (e.boot = .trial ∧ seq = e.trialSeq))
    (hr : seq ≠ e.lastReverted) : classOfSeq e seq = .unrecognized := by
  rw [classOfSeq, if_neg (BitVec.not_le.2 h), if_neg ht, if_neg hr]

end ClassOfSeq

/-- Settles O54: the log high sequence first, then the class of the sequence, and the checks of R57 for an unrecognized
one. -/
theorem rebuildOpensAreClassed : Obligations.RebuildOpensAreClassed := by
  refine ⟨?_, ?_⟩
  · intro s r malformed
    exact ⟨fun hl => rebuildOpen_of_error (if_pos hl), fun slot count exponent attempts hb hr =>
      rebuildOpen_of_error (openRebuildVerdict_of_not_ranges hb hr)⟩
  intro s r slot count exponent attempts target hb ht hc1 hc8 he12 he14 ha1 ha7 e accepted refusal unknown
  have hslot : slot.toNat ≤ 1 := by rw [ht]; cases target <;> decide
  have hv {cls : RebuildClass} (hcls : classOfSeq e r.seq = cls) :=
    openRebuildVerdict_of_ranges (s := s) hb ⟨hslot, hc1, hc8, he12, he14, ha1, ha7⟩ ht hcls
  have haccept {cls : RebuildClass} (hok : openRebuildVerdict r s =
      .ok (openedSet r target count exponent attempts (some cls))) : rebuildOpen r s = accepted cls :=
    (rebuildOpen_of_ok hok).trans (acceptOpen_eq _ r s)
  have hrefuse {reason : RefuseReason} (herr : openRebuildVerdict r s = .error reason) :
      rebuildOpen r s = refusal reason := rebuildOpen_of_error herr
  refine ⟨fun hlow => hrefuse ?_, fun hlog => ⟨fun hcom => haccept ?_, fun hcom hboot htrial => haccept ?_,
    fun hcom htrial hrev => haccept ?_, fun ⟨hcom, htrial, hrev⟩ hstate => hrefuse ?_,
    fun ⟨hcom, htrial, hrev⟩ hboot hstate => ?_⟩⟩
  · rw [hv rfl, if_pos (BitVec.not_lt.2 hlow)]
  · simp [hv (classOfSeq_installed hcom), hlog]
  · simp [hv (classOfSeq_trial hcom ⟨hboot, htrial⟩), hlog]
  · simp [hv (classOfSeq_reverted hcom htrial hrev), hlog]
  · have hboot : s.bsv.image.boot = .trial ∨ s.stm.setState = .trial := hstate
    obtain hboot | hstate := hboot
    · simp [hv (classOfSeq_unrecognized hcom htrial hrev), hlog, hboot]
    · simp [hv (classOfSeq_unrecognized hcom htrial hrev), hlog, hstate]
  · have hstable : s.bsv.image.boot = .stable := hboot
    have hv := hv (classOfSeq_unrecognized hcom htrial hrev)
    simp only [hlog, hstable, hstate, ne_eq, not_true_eq_false, if_false] at hv
    refine ⟨fun hslot => hrefuse (hv.trans (if_pos hslot)), fun hslot hlow => hrefuse ?_,
      fun hslot htrialSeq hrevSeq => haccept ?_⟩
    · rw [if_neg hslot, if_pos (mt (exceedsJournal_iff e r.seq).1 ?_)] at hv
      · exact hv
      · rintro ⟨-, htrialSeq, hrevSeq⟩
        exact hlow.elim (BitVec.not_le.2 htrialSeq) (BitVec.not_le.2 hrevSeq)
    · rw [if_neg hslot, if_neg (not_not.2 ((exceedsJournal_iff e r.seq).2 ⟨hcom, htrialSeq, hrevSeq⟩))] at hv
      exact hv

end Sys2Proof.Machine
end

section
/-!
PROOF. COMPONENT, CODES and CLOSE records (spec 04 sections 4.3 to 4.5): the order of their checks, the rejection of the
set by a check that fails, and the effects of a COMPONENT and a CLOSE that pass.
-/

namespace Sys2Proof.Machine

/-! ### The checks of a COMPONENT (R61) -/

section ComponentChecks

variable {s : State} {r : Record} {cs : CurrentSet}

/-- R61 checks 2 to 4: the index is below the component count and free, the identifier is no empty pair's, the length is
not 0. -/
def ComponentNamed (s : State) (r : Record) (cs : CurrentSet) : Prop :=
  (byteAt r.body 0).toNat < cs.compCount ∧ componentAt s (byteAt r.body 0).toNat = none ∧
    field16 r.body 2 ≠ 0xFFFF#16 ∧ 1 ≤ (field32 r.body 12).toNat

/-- R61 checks 5 to 7: the component begins at a chunk boundary, ends within the slot, lies apart from the declared
ones, and its chunks fit the tracker. -/
def ComponentPlaced (s : State) (r : Record) (cs : CurrentSet) : Prop :=
  (field32 r.body 8).toNat % 2 ^ cs.chunkExp = 0 ∧
    (field32 r.body 8).toNat + (field32 r.body 12).toNat ≤ slotSize s.settings cs.target ∧
    (∀ d ∈ declared s, spansApart cs (componentFields cs r) d = true) ∧
    totalChunks s + (componentFields cs r).chunkCount ≤ 1024

theorem not_componentNamed_iff : ¬ ComponentNamed s r cs ↔
    cs.compCount ≤ (byteAt r.body 0).toNat ∨ (componentAt s (byteAt r.body 0).toNat).isSome = true ∨
      (componentFields cs r).ident = 0xFFFF#16 ∨ (componentFields cs r).length = 0 := by
  simp only [ComponentNamed, componentFields, not_and_or, not_lt, not_not, ne_eq, Option.isSome_iff_ne_none,
    Nat.one_le_iff_ne_zero]

theorem not_componentPlaced_iff : ¬ ComponentPlaced s r cs ↔
    ¬ ((componentFields cs r).offset % chunkSize cs = 0 ∧
        (componentFields cs r).offset + (componentFields cs r).length ≤ slotSize s.settings cs.target) ∨
      ¬ (declared s).all (spansApart cs (componentFields cs r)) = true ∨
      1024 < totalChunks s + (componentFields cs r).chunkCount := by
  simp only [ComponentPlaced, chunkSize, List.all_eq_true, ← not_le, ← not_and_or, and_assoc]
  rfl

/-- R61: the checks in their order, those of one reason taken together. -/
theorem componentVerdict_eq (hl : r.body.length = 20) [Decidable (ComponentNamed s r cs)]
    [Decidable (ComponentPlaced s r cs)] : componentVerdict cs r s =
      if ¬ ComponentNamed s r cs then .error .malformed
      else if ¬ ComponentPlaced s r cs then .error .extent
      else if ¬ recognized cs ∧ rollsBack s.bsv.image (componentFields cs r) then .error .rollback
      else if ¬ halvesBelow (field32 r.body 16) then .error .codeRange
      else .ok ((byteAt r.body 0).toNat, componentFields cs r) := by
  simp only [not_componentNamed_iff, not_componentPlaced_iff, ite_or, componentVerdict, hl]
  rfl

end ComponentChecks

/-! ### The checks of a CLOSE (R66) -/

section CloseChecks

variable {s : State} {r : Record} {cs : CurrentSet}

theorem complete_iff : complete cs s = true ↔
    (∀ k < cs.compCount, componentAt s k ≠ none) ∧ ∀ c ∈ s.ckt.chunks, c.expected ≠ none := by
  simp [complete, Option.isSome_iff_ne_none]

/-- R66: the checks in their order. -/
theorem closeVerdict_eq (hl : r.body.length = 8) : closeVerdict cs r s =
    if ¬ halvesBelow (field32 r.body 4) then .error .codeRange
    else if (field16 r.body 0).toNat ≠ s.stm.accepted then .error .closeCount
    else if s.stm.digest.map code32 ≠ some (field32 r.body 4) then .error .closeDigest
    else if ¬ complete cs s then .error .incomplete
    else .ok () := by
  simp only [closeVerdict, hl]
  rfl

end CloseChecks

/-! ### The checks of a CODES (R63) -/

section CodesChecks

variable {s : State} {r : Record} {cs : CurrentSet} {k n first : Nat} {c : Component}

/-- R63: the run of a CODES body, chunk by chunk. -/
theorem runOf_codesOf (k first : Nat) (r : Record) (n : Nat) : runOf k first (codesOf r n) =
    (List.range n).map fun i => ({ comp := k, chunk := first + i }, field32 r.body (4 + 4 * i)) := by
  refine List.ext_getElem (by simp [runOf, codesOf]) fun i h h' => ?_
  simp [runOf, codesOf]

/-- R63: the body is one count, one index, a first chunk and as many codes as counted. -/
def CodesShaped (r : Record) (n : Nat) : Prop := 1 ≤ n ∧ n ≤ 61 ∧ r.body.length = 4 + 4 * n

theorem codesVerdict_of_not_shaped (hn : n = (byteAt r.body 1).toNat) (h : ¬ CodesShaped r n) :
    codesVerdict cs r s = .error .malformed := by
  subst hn
  exact if_pos h

theorem codesVerdict_of_undeclared (hn : n = (byteAt r.body 1).toNat) (hshape : CodesShaped r n)
    (h : cs.compCount ≤ (byteAt r.body 0).toNat ∨ componentAt s (byteAt r.body 0).toNat = none) :
    codesVerdict cs r s = .error .malformed := by
  subst hn
  have hshape : ¬ ¬ CodesShaped r _ := not_not.2 hshape
  refine (if_neg hshape).trans ?_
  by_cases hk : cs.compCount ≤ (byteAt r.body 0).toNat
  · exact if_pos hk
  · simp [h.resolve_left hk]

/-- R63: with a declared component named, the run, the halves and the codes held are left. -/
theorem codesVerdict_of_declared (hk : k = (byteAt r.body 0).toNat) (hn : n = (byteAt r.body 1).toNat)
    (hfirst : first = (field16 r.body 2).toNat) (hshape : CodesShaped r n) (hbelow : k < cs.compCount)
    (hc : componentAt s k = some c) : codesVerdict cs r s =
      if c.chunkCount < first + n then .error .malformed
      else if ¬ ∀ i < n, halvesBelow (field32 r.body (4 + 4 * i)) = true then .error .codeRange
      else if ∃ i < n, (expectedOf s { comp := k, chunk := first + i }).any (· ≠ field32 r.body (4 + 4 * i)) then
        .error .codeConflict
      else .ok (k, c, runOf k first (codesOf r n)) := by
  subst hk hn hfirst
  have hshape : ¬ ¬ CodesShaped r _ := not_not.2 hshape
  refine (if_neg hshape).trans ((if_neg (not_le.2 hbelow)).trans ?_)
  simp only [hc, runOf_codesOf, List.any_map, Function.comp_def, List.any_eq_true, List.mem_range]
  simp [codesOf]

theorem any_ne_iff {o : Option Word32} {x : Word32} : o.any (· ≠ x) = true ↔ ∃ held, o = some held ∧ held ≠ x := by
  cases o <;> simp

end CodesChecks

/-- Settles O32: each reason is the first failing branch of its verdict. -/
theorem rejectionReasonsInOrder : Obligations.RejectionReasonsInOrder := by
  classical
  intro s r cs
  refine ⟨fun hl => if_pos hl, ?component, fun hl => if_pos hl, fun hl => ?close, fun n hn => ?codes⟩
  case component =>
    intro hl c hc named placed
    subst hc
    rw [componentVerdict_eq hl]
    refine ⟨fun hnamed => if_pos hnamed, fun hnamed hplaced => ?_, fun hnamed hplaced hnew hback => ?_,
      fun hnamed hplaced hfits hcode => ?_⟩
    all_goals rw [if_neg (not_not.2 (show ComponentNamed s r cs from hnamed))]
    · exact if_pos hplaced
    · rw [if_neg (not_not.2 (show ComponentPlaced s r cs from hplaced)), if_pos (by simp [hnew, hback])]
    · rw [if_neg (not_not.2 (show ComponentPlaced s r cs from hplaced)), if_neg (by grind), if_pos (by simp [hcode])]
  case close =>
    rw [closeVerdict_eq hl]
    refine ⟨fun hcode => by simp [hcode], fun hcode hcount => by simp [hcode, hcount],
      fun hcode hcount hdigest => by simp [hcode, hcount, hdigest], fun hcode hcount hdigest hopen => ?_⟩
    have hincomplete : ¬ complete cs s = true := by
      rw [complete_iff]
      rintro ⟨hcomps, hchunks⟩
      obtain ⟨k, hk, hnone⟩ | ⟨c, hc, hnone⟩ := hopen
      · exact hcomps k hk hnone
      · exact hchunks c hc hnone
    simp [hcode, hcount, hdigest, hincomplete]
  case codes =>
    refine ⟨codesVerdict_of_not_shaped hn, fun h1 h61 hl => ⟨codesVerdict_of_undeclared hn ⟨h1, h61, hl⟩,
      fun c hc hk => ?_⟩⟩
    rw [codesVerdict_of_declared rfl hn rfl ⟨h1, h61, hl⟩ hk hc]
    refine ⟨fun hrun => if_pos hrun, fun hrun ⟨i, hi, hcode⟩ => ?_, fun hrun hcodes ⟨i, hi, held, hat, hne⟩ => ?_⟩
    all_goals rw [if_neg (not_lt.2 hrun)]
    · exact if_pos fun hall => by simp [hall i hi] at hcode
    · rw [if_neg (not_not.2 hcodes), if_pos ⟨i, hi, any_ne_iff.2 ⟨held, hat, hne⟩⟩]

/-! ### A failed check (R60) -/

section Rejection

variable {s : State} {r : Record} {cs : CurrentSet}

/-- A rejection names the current set (R60, R146). -/
theorem defaultSeq_of_set (hs : s.stm.set = some cs) : defaultSeq s = cs.seq := by simp [defaultSeq, hs]

theorem exec_componentRecord_of_error (h : PassesGate s r cs) {e : RejectReason}
    (hv : componentVerdict cs r s = .error e) : exec (.componentRecord r) s = .next (rejectNamed e r s) := by
  simp only [exec_componentRecord h.handed, takeComponent, gate_of_passes h, hv]

theorem exec_codesRecord_of_error (h : PassesGate s r cs) {e : RejectReason} (hv : codesVerdict cs r s = .error e) :
    exec (.codesRecord r) s = .next (rejectNamed e r s) := by
  simp only [exec_codesRecord h.handed, takeCodes, gate_of_passes h, hv]

theorem exec_closeRecord_of_error (h : PassesGate s r cs) {e : RejectReason} (hv : closeVerdict cs r s = .error e) :
    exec (.closeRecord r) s = .next (reject e 0xFF#8 s) := by
  simp only [exec_closeRecord h.handed, takeClose, gate_of_passes h, hv]

theorem rejectNamed_of_body {k : Byte} {rest : List Byte} (hb : r.body = k :: rest) (e : RejectReason) :
    rejectNamed e r s = reject e k s := by
  simp only [rejectNamed_eq, hb]

/-- Settles O31: a failed verdict of each kind is a rejection, under the name its body or its kind gives. -/
theorem failedChecksRejectTheSet : Obligations.FailedChecksRejectTheSet := by
  intro s r cs i h rejected
  have hreject (e : RejectReason) (k : Byte) : reject e k s = rejected e k := by
    rw [reject_eq, defaultSeq_of_set h.set_eq]
  refine ⟨?_, fun hi hb => ?_⟩
  · rintro k rest reason index (⟨rfl, hb, rfl, hv⟩ | ⟨rfl, hb, rfl, hv⟩ | ⟨rfl, rfl, hv⟩)
    · rw [exec_componentRecord_of_error h hv, rejectNamed_of_body hb, hreject]
    · rw [exec_codesRecord_of_error h hv, rejectNamed_of_body hb, hreject]
    · rw [exec_closeRecord_of_error h hv, hreject]
  · have hnamed : rejectNamed .malformed r s =
        { rejected .malformed (Config.unnamedIndex s.freeDraws) with freeDraws := s.freeDraws + 1 } := by
      simp only [rejectNamed_eq, hb, reject_eq, ← defaultSeq_of_set h.set_eq, rejected]
      rfl
    obtain rfl | rfl := hi
    · rw [exec_componentRecord_of_error h (if_pos (by simp [hb])), hnamed]
    · have hshape : ¬ CodesShaped r (byteAt r.body 1).toNat := fun ⟨_, _, hl⟩ => by
        rw [hb, List.length_nil] at hl
        omega
      rw [exec_codesRecord_of_error h (codesVerdict_of_not_shaped rfl hshape), hnamed]

end Rejection

/-! ### A COMPONENT and a CLOSE that pass (R62, R66, R67) -/

section Acceptance

variable {s : State} {r : Record} {cs : CurrentSet}

theorem exec_componentRecord_of_ok (h : PassesGate s r cs) {k : Nat} {c : Component}
    (hv : componentVerdict cs r s = .ok (k, c)) :
    exec (.componentRecord r) s = .next (countRecord r (createChunks k c.chunkCount (putComponent k c s))) := by
  simp only [exec_componentRecord h.handed, takeComponent, gate_of_passes h, hv]

/-- R61 check 6: one chunk span ends before the other begins. -/
theorem spansApart_iff {c d : Component} : spansApart cs c d = true ↔
    c.offset + c.chunkCount * 2 ^ cs.chunkExp ≤ d.offset ∨ d.offset + d.chunkCount * 2 ^ cs.chunkExp ≤ c.offset := by
  simp only [spansApart, Bool.or_eq_true, decide_eq_true_eq]
  rfl

/-- R61 check 8: no committed pair of the identifier has a higher version. -/
theorem rollsBack_eq_false_iff (e : JournalEntry) (c : Component) : rollsBack e c = false ↔
    ∀ p ∈ e.pairs.toList, p.ident ≠ 0xFFFF#16 → p.ident = c.ident → p.version ≤ c.version := by
  simp only [rollsBack, List.any_eq_false]
  simp

/-- Settles O30: the component is named and placed, rolls nothing back and has its code in range. -/
theorem componentIsDeclared : Obligations.ComponentIsDeclared := by
  classical
  intro s r cs k c h hl hk hc hbelow hfree hident hlen hoffset hslot hapart htotal hback hcode
  have hfields : c = componentFields cs r := hc
  subst hk
  have hnamed : ComponentNamed s r cs := by
    rw [hfields] at hident hlen
    exact ⟨hbelow, hfree, hident, hlen⟩
  have hplaced : ComponentPlaced s r cs := by
    rw [hfields] at hoffset hslot hapart htotal
    refine ⟨hoffset, hslot, fun d hd => ?_, htotal⟩
    exact spansApart_iff.2 (hapart d hd)
  have hnew : ¬ (¬ recognized cs = true ∧ rollsBack s.bsv.image (componentFields cs r) = true) := by
    rw [← hfields]
    rintro ⟨hrec, hroll⟩
    simp [(rollsBack_eq_false_iff _ _).2 (hback.resolve_left hrec)] at hroll
  have hv : componentVerdict cs r s = .ok ((byteAt r.body 0).toNat, c) := by
    rw [componentVerdict_eq hl, if_neg (not_not.2 hnamed), if_neg (not_not.2 hplaced), if_neg hnew, ← hfields]
    rw [hfields] at hcode
    exact if_neg (not_not.2 hcode)
  rw [exec_componentRecord_of_ok h hv]
  rfl

/-- R89: every chunk is GOOD. -/
theorem allGood_iff (s : State) : allGood s = true ↔ ∀ c ∈ s.ckt.chunks, c.state = .good := by
  simp [allGood, chunkCount, List.countP_eq_length]

theorem exec_closeRecord_of_ok (h : PassesGate s r cs) (hv : closeVerdict cs r s = .ok ()) :
    exec (.closeRecord r) s = .next (if allGood s then enterReady s else setSetState .closed s) := by
  simp only [exec_closeRecord h.handed, takeClose, gate_of_passes h, hv]

/-- Settles O34: the verdict passes, and the counts of the chunks decide between READY and CLOSED. -/
theorem closeEndsTheDeclaration : Obligations.CloseEndsTheDeclaration := by
  intro s r cs h hl hcode hcount ⟨l, hlanes, hdigest⟩ hcomps hchunks
  have hv : closeVerdict cs r s = .ok () := by
    simp [closeVerdict_eq hl, hcode, hcount, hlanes, code32, ← hdigest, complete_iff.2 ⟨hcomps, hchunks⟩]
  rw [exec_closeRecord_of_ok h hv]
  refine ⟨fun hgood => ?_, fun ⟨c, hc, hbad⟩ => ?_⟩
  · rw [if_pos ((allGood_iff s).2 hgood), enterReady_eq, defaultSeq_of_set h.set_eq]
  · rw [if_neg fun hgood => hbad ((allGood_iff s).1 hgood c hc), setSetState_eq]

end Acceptance

end Sys2Proof.Machine
end

section
/-!
PROOF. COMMIT, CONFIRM, ABANDON and CLEAR records (spec 04 sections 4.6 to 4.8): their checks in order, and what a
record that passes has the Boot Supervisor begin.
-/

namespace Sys2Proof.Machine

section

variable {s : State} {r : Record} {cs : CurrentSet}

/-! ### COMMIT (R68, R122) -/

theorem exec_commitRecord_of_error (h : Handed s) {e : RefuseReason} (hv : commitVerdict r s = .error e) :
    exec (.commitRecord r) s = refusedRecord 5 e r s := by
  rw [exec_commitRecord h, takeCommit, hv]; rfl

theorem exec_commitRecord_of_ok (h : Handed s) (hv : commitVerdict r s = .ok cs) :
    exec (.commitRecord r) s = .next (beginCommit cs (setSetState .committing s)) := by
  rw [exec_commitRecord h, takeCommit, hv]

/-- R68: with an empty body and a set, its sequence, the boot state, the set state, the memory and the write in flight
are checked. -/
theorem commitVerdict_of_set (hb : r.body = []) (hs : s.stm.set = some cs) : commitVerdict r s =
    if r.seq ≠ cs.seq then .error .wrongSequence
    else if s.bsv.image.boot ≠ .stable then .error .wrongState
    else if s.stm.setState ≠ .ready then .error .notReady
    else if s.ppc.presence ≠ .present then .error .noStore
    else if s.bsv.inFlight.isSome then .error .busy
    else .ok cs := by
  simp only [commitVerdict, hb, hs]
  rfl

theorem beginCommit_of_generation (hg : s.bsv.image.generation ≠ 0xFFFFFFFE#32) (cs : CurrentSet) :
    beginCommit cs s = { s with bsv := writing s .commit { freshEntry s.bsv.image with
      boot := .trial, trial := cs.target, trialSeq := cs.seq, attempts := cs.attempts - 1 } } := by
  have hspent : ¬ generationSpent s = true := by simpa [generationSpent] using hg
  exact if_neg hspent

/-- R117, R123: at the last generation the COMMITTING set returns to READY at once. -/
theorem beginCommit_of_spent (hg : s.bsv.image.generation = 0xFFFFFFFE#32) (hs : s.stm.setState = .committing)
    (cs : CurrentSet) : beginCommit cs s = enterReady (failWrite .commit .atOnce s) := by
  have hspent : generationSpent s = true := by simpa [generationSpent] using hg
  refine (if_pos hspent).trans (if_pos ?_)
  rw [failWrite_eq]
  exact hs

/-- Settles O35: each refusal is a branch of the verdict, and one that passes begins its write or fails at once. -/
theorem commitIsCheckedAndBegun : Obligations.CommitIsCheckedAndBegun := by
  intro s r h
  refine ⟨fun hb => ?_, fun hb hs => ?_, fun cs hb hs => ?_⟩
  · exact exec_commitRecord_of_error h (if_pos (by simpa using hb))
  · exact exec_commitRecord_of_error h (by simp [commitVerdict, hb, hs])
  have hv := commitVerdict_of_set hb hs
  refine ⟨fun hseq => ?_, fun hseq => ⟨fun hboot => ?_, fun hboot => ⟨fun hstate => ?_, fun hstate =>
    ⟨fun hstore => ?_, fun hstore => ⟨fun hbusy => ?_, fun hfree => ?_⟩⟩⟩⟩⟩
  · exact exec_commitRecord_of_error h (by simp [hv, hseq])
  · exact exec_commitRecord_of_error h (by simp [hv, hseq, hboot])
  · exact exec_commitRecord_of_error h (by simp [hv, hseq, hboot, hstate])
  · exact exec_commitRecord_of_error h (by simp [hv, hseq, hboot, hstate, hstore])
  · exact exec_commitRecord_of_error h (by
      simp [hv, hseq, hboot, hstate, hstore, Option.isSome_iff_ne_none.2 hbusy])
  · rw [exec_commitRecord_of_ok h (cs := cs) (by simp [hv, hseq, hboot, hstate, hstore, hfree])]
    refine ⟨fun hg => ?_, fun hg => ?_⟩
    · rw [beginCommit_of_generation (s := setSetState .committing s) hg]; rfl
    · have hback : ({ s.stm with setState := .ready } : Stm) = s.stm := by rw [← hstate]
      have hcleared : ({ s.bsv with inFlight := none, retryWait := none } : Bsv) =
          { s.bsv with retryWait := none } := by
        simp only [hfree]
      rw [beginCommit_of_spent (s := setSetState .committing s) hg rfl, enterReady_eq, failWrite_eq, setSetState_eq,
        ← defaultSeq_of_set hs]
      simp only [hback, hcleared]
      rfl

/-! ### CONFIRM (R70, R128) -/

theorem exec_confirmRecord_of_error (h : Handed s) {e : RefuseReason} (hv : confirmVerdict r s = .error e) :
    exec (.confirmRecord r) s = refusedRecord 6 e r s := by
  rw [exec_confirmRecord h, takeConfirm, hv]; rfl

theorem exec_confirmRecord_of_ok (h : Handed s) (hv : confirmVerdict r s = .ok ()) :
    exec (.confirmRecord r) s = .next (beginConfirmation s) := by
  rw [exec_confirmRecord h, takeConfirm, hv]

/-- The current set is the one on trial (R70 check 4). -/
def OnTrial (s : State) : Prop :=
  ∃ cs, s.stm.set = some cs ∧ cs.seq = s.bsv.image.trialSeq ∧ s.stm.setState = .trial

/-- R70: with the sequence of the trial named, the current set and the write in flight are left. -/
theorem confirmVerdict_of_trial (hb : r.body = []) (hboot : s.bsv.image.boot = .trial)
    (hseq : r.seq = s.bsv.image.trialSeq) [Decidable (OnTrial s)] : confirmVerdict r s =
      if ¬ OnTrial s then .error .noSet else if s.bsv.inFlight.isSome then .error .busy else .ok () := by
  cases hs : s.stm.set with
  | none => simp [confirmVerdict, OnTrial, hb, hboot, hseq, hs]
  | some cs =>
    by_cases hcs : cs.seq = s.bsv.image.trialSeq <;>
      simp [confirmVerdict, OnTrial, hb, hboot, hseq, hs, hcs]

/-- The state in which a confirmation entry is written: the timer stopped, the request taken (R126, R128). -/
def confirming (s : State) : State := { s with bsv := { s.bsv with confirmTimer := none, confirmTaken := true } }

theorem beginConfirmation_of_generation (hg : s.bsv.image.generation ≠ 0xFFFFFFFE#32) : beginConfirmation s =
    beginWrite .confirmation (confirmationEntry s.bsv.image (requestPairs s)) (confirming s) := by
  have hspent : ¬ generationSpent (confirming s) = true := by simpa [generationSpent, confirming] using hg
  exact if_neg hspent

/-- R117, R128: at the last generation the timer restarts, or the demand held begins its revert. -/
theorem beginConfirmation_of_spent (hg : s.bsv.image.generation = 0xFFFFFFFE#32) : beginConfirmation s =
    if s.bsv.demand.isSome then beginRevert (failWrite .confirmation .atOnce (confirming s))
    else startTimer (failWrite .confirmation .atOnce (confirming s)) := by
  have hspent : generationSpent (confirming s) = true := by simpa [generationSpent, confirming] using hg
  exact if_pos hspent

/-- R131: in RUN a revert that fails at once waits for its retry under the demand. -/
theorem revertSpent_of_run (h : s.sup.part = .run) (demand : Option RevertReason) : revertSpent s demand = { s.bsv with
    inFlight := some { kind := .revert, entry := revertOf s.bsv.image, since := s.now }
    retryWait := some s.now, demand := demand, confirmTimer := none, mrst := some (s.bsv.mrst.getD s.now)
    releaseDue := none } :=
  if_neg (by simp [h])

theorem supSpent_of_run (h : s.sup.part = .run) : supSpent s = s.sup := if_neg (by simp [h])

/-- Settles O36: each refusal is a branch of the verdict, and one that passes begins its write or fails at once. -/
theorem confirmIsCheckedAndBegun : Obligations.ConfirmIsCheckedAndBegun := by
  classical
  intro s r h ours
  refine ⟨fun hb => ?_, fun hb hboot => ?_, fun hb hboot hseq => ?_, fun hb hboot hseq => ?_⟩
  · exact exec_confirmRecord_of_error h (if_pos (by simpa using hb))
  · exact exec_confirmRecord_of_error h (by simp [confirmVerdict, hb, hboot])
  · exact exec_confirmRecord_of_error h (by simp [confirmVerdict, hb, hboot, hseq])
  have hv := confirmVerdict_of_trial hb hboot hseq
  refine ⟨fun hours => exec_confirmRecord_of_error h (hv.trans (if_pos hours)), fun hours hbusy => ?_,
    fun hours hfree hg => ?_, fun hours hfree hg => ?_⟩
  all_goals rw [if_neg (not_not.2 (show OnTrial s from hours))] at hv
  · exact exec_confirmRecord_of_error h (hv.trans (if_pos (Option.isSome_iff_ne_none.2 hbusy)))
  · rw [exec_confirmRecord_of_ok h (by simp [hv, hfree]), beginConfirmation_of_generation hg]
    rfl
  · rw [exec_confirmRecord_of_ok h (by simp [hv, hfree]), beginConfirmation_of_spent hg]
    refine ⟨fun hd => ?_, fun hd => ?_⟩
    · rw [hd, startTimer_eq, failWrite_eq]
      simp only [confirming, hfree]
      rfl
    · rw [if_pos (Option.isSome_iff_ne_none.2 hd),
        beginRevert_spent (s := failWrite .confirmation .atOnce (confirming s)) hg]
      rw [revertSpent_of_run h.1, revertSpent_of_run (s := failWrite .confirmation .atOnce (confirming s)) h.1,
        supSpent_of_run (s := failWrite .confirmation .atOnce (confirming s)) h.1]
      rfl

/-! ### ABANDON (R71, R75, R129) -/

/-- R129: where no write is in flight a demand begins its revert. -/
theorem demandRevert_of_idle (hf : s.bsv.inFlight = none) (reason : RevertReason) :
    demandRevert reason s = beginRevert (holdDemand reason s) :=
  if_pos (Option.isNone_iff_eq_none.2 hf)

theorem demandRevert_of_busy (hd : s.bsv.demand = none) (hf : s.bsv.inFlight ≠ none) (reason : RevertReason) :
    demandRevert reason s = { s with bsv := { s.bsv with demand := some reason } } := by
  simp [demandRevert, holdDemand_eq, hd, hf]

theorem demandRevert_of_free (hd : s.bsv.demand = none) (hf : s.bsv.inFlight = none)
    (hg : s.bsv.image.generation ≠ 0xFFFFFFFE#32) (reason : RevertReason) :
    demandRevert reason s = { s with bsv := { writing s .revert { freshEntry s.bsv.image with
        boot := .stable, lastReverted := s.bsv.image.trialSeq, attempts := 0 } with
      demand := some reason, confirmTimer := none, mrst := some (s.bsv.mrst.getD s.now), releaseDue := none } } := by
  rw [demandRevert_of_idle hf, beginRevert_eq, if_neg (show (holdDemand reason s).bsv.image.generation ≠ _ from hg),
    holdDemand_eq, hd]
  rfl

/-- R117, R131: at the last generation the revert entry fails at once. -/
theorem demandRevert_of_spent (hd : s.bsv.demand = none) (hf : s.bsv.inFlight = none)
    (hg : s.bsv.image.generation = 0xFFFFFFFE#32) (reason : RevertReason) :
    demandRevert reason s = { s with
      bsv := revertSpent s (some reason), sup := supSpent s
      rpu := s.rpu.post .journalFailed (defaultSeq s) (detailBytes 4 0) } := by
  rw [demandRevert_of_idle hf, beginRevert_spent (s := holdDemand reason s) hg, holdDemand_eq, hd]
  rfl

theorem takeAbandon_of_trial (hb : r.body = []) (ht : s.bsv.image.boot = .trial ∧ r.seq = s.bsv.image.trialSeq) :
    takeAbandon r s = if s.bsv.demand.isSome then refuse .abandon .busy r s else demandRevert .abandoned s := by
  rw [takeAbandon, if_neg (by simp [hb]), if_pos ht]

theorem takeAbandon_of_not_trial (hb : r.body = [])
    (ht : ¬ (s.bsv.image.boot = .trial ∧ r.seq = s.bsv.image.trialSeq)) : takeAbandon r s = abandonSet r s := by
  rw [takeAbandon, if_neg (by simp [hb]), if_neg ht]

theorem abandonSet_of_set (hs : s.stm.set = some cs) : abandonSet r s =
    if r.seq ≠ cs.seq then refuse .abandon .wrongSequence r s
    else if preparing s.stm.setState then enterFrozen .abandoned s
    else refuse .abandon .wrongState r s := by
  simp only [abandonSet, hs]

/-- Settles O37: the trial set's ABANDON is a revert demand, another set's is judged by its sequence and state. -/
theorem abandonRevertsOrDiscards : Obligations.AbandonRevertsOrDiscards := by
  intro s r h trialSet
  rw [exec_abandonRecord h]
  refine ⟨fun hb => congrArg _ (if_pos (by simpa using hb)), fun hb ht => ?_, fun hb ht => ?_⟩
  · rw [takeAbandon_of_trial hb ht]
    refine ⟨fun hd => ?_, fun hd hf => ?_, fun hd hf hg => ?_, fun hd hf hg => ?_⟩
    · rw [if_pos (Option.isSome_iff_ne_none.2 hd)]; rfl
    all_goals rw [if_neg (by simp [hd])]
    · rw [demandRevert_of_busy hd hf]
    · rw [demandRevert_of_free hd hf hg]
    · rw [demandRevert_of_spent hd hf hg, supSpent_of_run h.1]
  · rw [takeAbandon_of_not_trial hb ht]
    refine ⟨fun hs => by rw [abandonSet, hs]; rfl, fun cs hs => ?_⟩
    rw [abandonSet_of_set hs]
    refine ⟨fun hseq => by rw [if_pos hseq]; rfl, fun hseq hp => ?_, fun hseq hp => ?_⟩
    · simp [hseq, hp]; rfl
    · simp [hseq, hp, enterFrozen_eq]

/-! ### CLEAR (R72, R149) -/

theorem clearEvents_if (p : Prop) [Decidable p] (s : State) : (if p then clearEvents s else s) = { s with
    rpu := if p then { s.rpu with events := [], overflow := false } else s.rpu } := by
  split <;> rfl

theorem setRestart_if (p : Prop) [Decidable p] (c : RestartCause) (s : State) :
    (if p then setRestart c s else s) = { s with bsv := if p then { s.bsv with restart := c } else s.bsv } := by
  split <;> rfl

/-- Settles O38: the two flags of the body act on blocks of their own. -/
theorem clearActsOnItsFlags : Obligations.ClearActsOnItsFlags := by
  intro s r h
  rw [exec_clearRecord h]
  refine ⟨fun hl => congrArg _ (if_pos hl), fun flags hb => congrArg _ ?_⟩
  have hflags : byteAt r.body 0 = flags := by rw [hb]; rfl
  rw [takeClear, if_neg (by simp [hb]), hflags]
  simp only [clearEvents_if, setRestart_if]

end

end Sys2Proof.Machine
end

section
/-!
PROOF. RESCAN and CODES records (spec 04 sections 4.4 and 4.8, spec 05): an operation on one chunk after another as one
change of the chunk records and one extension of the queue.
-/

namespace Sys2Proof.Machine

/-! ### Chunks found by their references (R78) -/

section Find

variable {s : State} {c : Chunk} {r : ChunkRef}

/-- Two chunk records of one reference are the same. -/
theorem chunk_eq_of_ref (h : (s.ckt.chunks.map Chunk.ref).Nodup) {c d : Chunk} (hc : c ∈ s.ckt.chunks)
    (hd : d ∈ s.ckt.chunks) (hr : c.ref = d.ref) : c = d :=
  List.inj_on_of_nodup_map h hc hd hr

theorem findChunk_of_mem (h : (s.ckt.chunks.map Chunk.ref).Nodup) (hc : c ∈ s.ckt.chunks) :
    findChunk s c.ref = some c := by
  cases hfind : findChunk s c.ref with
  | none => exact absurd (List.find?_eq_none.1 hfind c hc) (by simp)
  | some d =>
    rw [chunk_eq_of_ref h (List.mem_of_find?_eq_some hfind) hc (by simpa using List.find?_some hfind)]

theorem findChunk_eq_some_iff (h : (s.ckt.chunks.map Chunk.ref).Nodup) :
    findChunk s r = some c ↔ c ∈ s.ckt.chunks ∧ c.ref = r := by
  refine ⟨fun hfind => ⟨List.mem_of_find?_eq_some hfind, by simpa using List.find?_some hfind⟩, ?_⟩
  rintro ⟨hc, rfl⟩
  exact findChunk_of_mem h hc

end Find

/-! ### A rescan (R90) -/

section Rescan

variable {s : State}

/-- A rescan request makes the chunk DIRTY (R90). -/
def rescanWakes (c : Chunk) : Bool := c.state == .erased || c.state == .good || c.state == .bad

theorem afterRescan_eq (c : Chunk) : afterRescan c = if rescanWakes c then { c with state := .dirty } else c := by
  cases h : c.state <;> simp [afterRescan, rescanWakes, h] <;> rw [← h]

/-- R90, R91: a chunk becomes DIRTY and joins the tail of a served queue. -/
theorem enqueue_moveChunk (h : served s = true) (r : ChunkRef) : enqueue r (moveChunk r .dirty s) = { s with ckt := {
    chunks := s.ckt.chunks.map fun x => if x.ref = r then { x with state := .dirty } else x
    queue := s.ckt.queue ++ [r] } } := by
  rw [enqueue_eq, if_pos (show served (moveChunk r .dirty s) = true from h)]; rfl

/-- R90: the request for one chunk, while the queue is served. -/
theorem rescanChunk_eq (h : served s = true) (c : Chunk) : rescanChunk c s = { s with
    ckt := {
      chunks := s.ckt.chunks.map fun x => if rescanWakes c ∧ x.ref = c.ref then { x with state := .dirty } else x
      queue := s.ckt.queue ++ if rescanWakes c then [c.ref] else [] }
    stm := { s.stm with setState :=
      if s.stm.setState = .ready ∧ c.state = .good then .closed else s.stm.setState } } := by
  cases hx : c.state <;> simp [rescanChunk, rescanWakes, hx, reportLeftGood_eq, enqueue_moveChunk h]

theorem served_rescanChunk (h : served s = true) (c : Chunk) : served (rescanChunk c s) = true := by
  rw [rescanChunk_eq h]
  simp only [served, Bool.and_eq_true] at h ⊢
  refine ⟨h.1, ?_⟩
  split
  · rfl
  · exact h.2

/-- R90: the requests for chunks in turn. -/
theorem forEachChunk_rescanChunk (h : served s = true) (cs : List Chunk) : forEachChunk rescanChunk cs s = { s with
    ckt := {
      chunks := s.ckt.chunks.map fun x =>
        if ∃ c ∈ cs, rescanWakes c ∧ x.ref = c.ref then { x with state := .dirty } else x
      queue := s.ckt.queue ++ (cs.filter rescanWakes).map Chunk.ref }
    stm := { s.stm with setState :=
      if s.stm.setState = .ready ∧ ∃ c ∈ cs, c.state = .good then .closed else s.stm.setState } } := by
  induction cs generalizing s with
  | nil => simp [forEachChunk]
  | cons c cs ih =>
    rw [forEachChunk_cons, ih (served_rescanChunk h c), rescanChunk_eq h]
    simp only [State.mk.injEq, Ckt.mk.injEq, Stm.mk.injEq, true_and, and_true, List.map_map]
    refine ⟨?_, List.map_congr_left fun x _ => ?_, ?_⟩
    · by_cases hr : s.stm.setState = .ready <;> by_cases hg : c.state = .good <;> simp [hr, hg]
    · by_cases hc : rescanWakes c = true ∧ x.ref = c.ref <;> simp [hc]
    · cases hc : rescanWakes c <;> simp [hc]

/-- R90: the request for the chunks of the state that `named` picks, each once. -/
theorem forEachChunk_rescanChunk_filter (h : served s = true) (hrefs : (s.ckt.chunks.map Chunk.ref).Nodup)
    (named : Chunk → Bool) : forEachChunk rescanChunk (s.ckt.chunks.filter named) s = { s with
      ckt := {
        chunks := s.ckt.chunks.map fun c => if named c then afterRescan c else c
        queue := s.ckt.queue ++ (s.ckt.chunks.filter fun c => named c && rescanWakes c).map Chunk.ref }
      stm := { s.stm with setState :=
        if s.stm.setState = .ready ∧ ∃ c ∈ s.ckt.chunks, named c = true ∧ c.state = .good then .closed
        else s.stm.setState } } := by
  have hreached : ∀ x ∈ s.ckt.chunks, ((∃ c ∈ s.ckt.chunks, named c = true ∧ rescanWakes c = true ∧ x.ref = c.ref) ↔
      named x = true ∧ rescanWakes x = true) := by
    refine fun x hx => ⟨fun ⟨c, hc, hnamed, hwakes, href⟩ => ?_, fun ⟨hnamed, hwakes⟩ => ⟨x, hx, hnamed, hwakes, rfl⟩⟩
    exact chunk_eq_of_ref hrefs hx hc href ▸ ⟨hnamed, hwakes⟩
  rw [forEachChunk_rescanChunk h]
  simp only [State.mk.injEq, Ckt.mk.injEq, true_and, and_true, List.filter_filter, List.mem_filter, and_assoc]
  refine ⟨List.map_congr_left fun x hx => ?_, by simp only [Bool.and_comm]⟩
  simp only [hreached x hx, afterRescan_eq]
  cases named x <;> simp

theorem exec_rescanRecord_of_error (h : Handed s) {r : Record} {e : RefuseReason} (hv : rescanVerdict r s = .error e) :
    exec (.rescanRecord r) s = refusedRecord 9 e r s := by
  rw [exec_rescanRecord h, takeRescan, hv]; rfl

/-- R73: with a body of one byte and a set, the sequence, the set state and the component named are left. -/
theorem rescanVerdict_of_set {r : Record} {k : Byte} {cs : CurrentSet} (hb : r.body = [k]) (hs : s.stm.set = some cs) :
    rescanVerdict r s =
      if r.seq ≠ cs.seq then .error .wrongSequence
      else if ¬ rescannable s.stm.setState then .error .wrongState
      else if k = 0xFF#8 then .ok none
      else if (componentAt s k.toNat).isSome then .ok (some k.toNat)
      else .error .malformed := by
  have hk : byteAt r.body 0 = k := by rw [hb]; rfl
  have hl : ¬ r.body.length ≠ 1 := by simp [hb]
  simp only [rescanVerdict, hk, if_neg hl, hs]

/-- R73, R80: a set state that accepts a RESCAN is live. -/
theorem liveState_of_rescannable {x : SetState} (h : rescannable x = true) : liveState x = true := by
  revert h
  cases x <;> decide

/-- Settles O26: each refusal is a branch of the verdict; a request that passes reaches the chunks it names. -/
theorem rescanMakesDirty : Obligations.RescanMakesDirty := by
  intro s r h
  refine ⟨fun hl => exec_rescanRecord_of_error h (if_pos hl), fun k hb => ⟨fun hs => ?_, fun cs hs => ?_⟩⟩
  · exact exec_rescanRecord_of_error h (by simp [rescanVerdict, hb, hs])
  have hv := rescanVerdict_of_set hb hs
  refine ⟨fun hseq => ?_, fun hseq hstate => ?_, fun hseq hstate hk hnone => ?_,
    fun hseq hstate hk hrefs named hnamed => ?_⟩
  · exact exec_rescanRecord_of_error h (by simp [hv, hseq])
  · exact exec_rescanRecord_of_error h (by simp [hv, hseq, hstate])
  · exact exec_rescanRecord_of_error h (by simp [hv, hseq, hstate, hk, hnone])
  have hlive := liveState_of_rescannable hstate
  have hserved : served s = true := by simp [served, h.1, hlive]
  have hreach : takeRescan r s = forEachChunk rescanChunk (s.ckt.chunks.filter named) s := by
    by_cases hall : k = 0xFF#8
    · have hpick : named = fun _ => true := funext fun c => (hnamed c).2 (.inl hall)
      simp [takeRescan, hv, hseq, hstate, hall, rescan, hlive, hpick]
    · have hpick : named = fun c => decide (c.ref.comp = k.toNat) :=
        funext fun c => Bool.eq_iff_iff.2 (by simp [hnamed, hall])
      have hsome := Option.isSome_iff_ne_none.2 (hk.resolve_left hall)
      simp [takeRescan, hv, hseq, hstate, hall, hsome, rescan, hlive, hpick]
  rw [exec_rescanRecord h, hreach, forEachChunk_rescanChunk_filter hserved hrefs named]
  rfl

end Rescan

/-! ### CODES (R63, R64, R84) -/

section Codes

variable {s : State} {r : Record}

/-- R64 step 1, R84: a chunk that holds no code takes one, and becomes DIRTY if it was UNCODED. -/
def afterCode (code : Option Word32) (c : Chunk) : Chunk :=
  { c with expected := code, state := if c.state = .uncoded then .dirty else c.state }

/-- A code makes the chunk DIRTY (R84). -/
def codeWakes (c : Chunk) : Bool := c.expected == none && c.state == .uncoded

/-- R84: the code for one chunk, while the queue is served. -/
theorem codeChunk_eq (h : served s = true) (c : Chunk) (code : Word32) : codeChunk c code s = { s with ckt := {
    chunks := s.ckt.chunks.map fun x => if x.ref = c.ref then
      { x with expected := some code, state := if c.state = .uncoded then .dirty else x.state } else x
    queue := s.ckt.queue ++ if c.state = .uncoded then [c.ref] else [] } } := by
  have hserved : served (updateChunk c.ref (fun x => { x with expected := some code }) s) = true := h
  cases hx : c.state
  case uncoded =>
    simp only [codeChunk, hx]
    rw [enqueue_moveChunk hserved, updateChunk_eq]
    simp only [State.mk.injEq, Ckt.mk.injEq, true_and, and_true, if_true, List.map_map]
    refine List.map_congr_left fun x _ => ?_
    by_cases hr : x.ref = c.ref <;> simp [hr]
  all_goals simp [codeChunk, hx, updateChunk_eq]

/-- The chunk records after the chunk of `r` has been given a code. -/
def storeAt (r : ChunkRef) (code : Option Word32) (x : Chunk) : Chunk :=
  if x.expected = none ∧ x.ref = r then afterCode code x else x

theorem storeAt_ref (r : ChunkRef) (code : Option Word32) (x : Chunk) : (storeAt r code x).ref = x.ref := by
  unfold storeAt
  split <;> rfl

theorem storeAt_of_ne {r : ChunkRef} {x : Chunk} (h : x.ref ≠ r) (code : Option Word32) : storeAt r code x = x :=
  if_neg fun hx => h hx.2

theorem storeAt_of_coded {x : Chunk} (h : x.expected ≠ none) (r : ChunkRef) (code : Option Word32) :
    storeAt r code x = x :=
  if_neg fun hx => h hx.1

/-- R64 step 1: one chunk of the run, while the queue is served. -/
theorem storeCode_eq (h : served s = true) (hrefs : (s.ckt.chunks.map Chunk.ref).Nodup) (p : ChunkRef × Word32) :
    storeCode p s = { s with ckt := {
      chunks := s.ckt.chunks.map (storeAt p.1 (some p.2))
      queue := s.ckt.queue ++ if (findChunk s p.1).any codeWakes then [p.1] else [] } } := by
  cases hfind : findChunk s p.1 with
  | none =>
    have hsame : s.ckt.chunks.map (storeAt p.1 (some p.2)) = s.ckt.chunks :=
      (List.map_congr_left fun x hx => storeAt_of_ne (by simpa using List.find?_eq_none.1 hfind x hx) _).trans
        (List.map_id _)
    simp [storeCode, hfind, hsame]
  | some c =>
    obtain ⟨hc, href⟩ := (findChunk_eq_some_iff hrefs).1 hfind
    have hone : ∀ x ∈ s.ckt.chunks, x.ref = p.1 → x = c := fun x hx hr =>
      chunk_eq_of_ref hrefs hx hc (hr.trans href.symm)
    by_cases hnone : c.expected = none
    · rw [storeCode, hfind]
      simp only [hnone, Option.isNone_none, if_true, codeChunk_eq h, href, Option.any_some]
      simp only [State.mk.injEq, Ckt.mk.injEq, true_and, and_true]
      refine ⟨List.map_congr_left fun x hx => ?_, by simp [codeWakes, hnone]⟩
      by_cases hr : x.ref = p.1
      · obtain rfl := hone x hx hr
        simp [storeAt, hr, hnone, afterCode]
      · rw [if_neg hr, storeAt_of_ne hr]
    · have hsame : s.ckt.chunks.map (storeAt p.1 (some p.2)) = s.ckt.chunks := by
        refine (List.map_congr_left fun x hx => ?_).trans (List.map_id _)
        by_cases hr : x.ref = p.1
        · exact storeAt_of_coded (hone x hx hr ▸ hnone) _ _
        · exact storeAt_of_ne hr _
      simp [storeCode, hfind, hnone, hsame, codeWakes]

theorem findChunk_storeAt {r q : ChunkRef} (h : r ≠ q) (code : Option Word32) (queue : List ChunkRef) :
    findChunk { s with ckt := { chunks := s.ckt.chunks.map (storeAt q code), queue := queue } } r = findChunk s r := by
  simp only [findChunk, List.find?_map, Function.comp_def, storeAt_ref]
  cases hfind : s.ckt.chunks.find? fun x => x.ref = r with
  | none => rfl
  | some x =>
    have hx : x.ref = r := by simpa using List.find?_some hfind
    exact congrArg some (storeAt_of_ne (hx ▸ h) code)

/-- R64 step 1: a run of codes for distinct chunks, while the queue is served. -/
theorem foldl_storeCode (h : served s = true) (hrefs : (s.ckt.chunks.map Chunk.ref).Nodup)
    {run : List (ChunkRef × Word32)} (hrun : (run.map Prod.fst).Nodup) {codeFor : ChunkRef → Option Word32}
    (hcode : ∀ p ∈ run, codeFor p.1 = some p.2) :
    run.foldl (fun s p => storeCode p s) s = { s with ckt := {
      chunks := s.ckt.chunks.map fun x =>
        if x.expected = none ∧ x.ref ∈ run.map Prod.fst then afterCode (codeFor x.ref) x else x
      queue := s.ckt.queue ++ (run.map Prod.fst).filter fun r => (findChunk s r).any codeWakes } } := by
  induction run generalizing s with
  | nil => simp
  | cons p run ih =>
    obtain ⟨hnot, hrun⟩ := List.nodup_cons.1 hrun
    have hne : ∀ r ∈ run.map Prod.fst, r ≠ p.1 := fun r hr he => hnot (he ▸ hr)
    have hserved : served (storeCode p s) = true := by rw [storeCode_eq h hrefs]; exact h
    have hrefs' : ((storeCode p s).ckt.chunks.map Chunk.ref).Nodup := by
      rw [storeCode_eq h hrefs]
      simpa only [List.map_map, Function.comp_def, storeAt_ref] using hrefs
    have hfind : ∀ r ∈ run.map Prod.fst, findChunk (storeCode p s) r = findChunk s r := fun r hr => by
      rw [storeCode_eq h hrefs]
      exact findChunk_storeAt (hne r hr) _ _
    rw [List.foldl_cons, ih hserved hrefs' hrun fun q hq => hcode q (List.mem_cons_of_mem p hq)]
    rw [List.filter_congr fun r hr => by rw [hfind r hr], storeCode_eq h hrefs]
    simp only [State.mk.injEq, Ckt.mk.injEq, true_and, and_true, List.map_map]
    refine ⟨List.map_congr_left fun x _ => ?_, ?_⟩
    · have hhead := hcode p List.mem_cons_self
      by_cases hr : x.ref = p.1
      · simp only [Function.comp_apply, storeAt_ref, hr]
        rw [if_neg fun hx => hnot hx.2]
        simp [storeAt, hr, hhead]
      · simp [storeAt_of_ne hr, hr]
    · cases hw : (findChunk s p.1).any codeWakes <;> simp [hw]

/-- A sublist of a list without repetition is what the list holds of it. -/
theorem filter_mem_of_sublist {α : Type} [DecidableEq α] {K L : List α} (h : K.Sublist L) (hn : L.Nodup) :
    L.filter (· ∈ K) = K := by
  have hsub := h.filter (· ∈ K)
  rw [List.filter_eq_self.2 (by simp)] at hsub
  refine (hsub.eq_of_length (List.Perm.length_eq ?_)).symm
  refine (List.perm_ext_iff_of_nodup (hn.sublist h) (hn.filter _)).2 fun x => ?_
  simpa using fun hx => h.subset hx

/-- References in set order, those of chunks with a property, as the chunks of the state. -/
theorem filter_findChunk (hrefs : (s.ckt.chunks.map Chunk.ref).Nodup) {K : List ChunkRef}
    (hK : K.Sublist (s.ckt.chunks.map Chunk.ref)) (p : Chunk → Bool) :
    K.filter (fun r => (findChunk s r).any p) = (s.ckt.chunks.filter fun x => x.ref ∈ K ∧ p x).map Chunk.ref := by
  have hfind : ∀ x ∈ s.ckt.chunks, decide (x.ref ∈ K ∧ p x) =
      ((fun r => (findChunk s r).any p && decide (r ∈ K)) ∘ Chunk.ref) x := fun x hx => by
    simp [findChunk_of_mem hrefs hx, Bool.and_comm]
  calc K.filter (fun r => (findChunk s r).any p)
      = ((s.ckt.chunks.map Chunk.ref).filter (· ∈ K)).filter fun r => (findChunk s r).any p := by
        rw [filter_mem_of_sublist hK hrefs]
    _ = (s.ckt.chunks.filter fun x => x.ref ∈ K ∧ p x).map Chunk.ref := by
        rw [List.filter_filter, List.filter_map, List.filter_congr hfind]

/-- R63: the references of a run of `n` chunks. -/
def runRefs (k first n : Nat) : List ChunkRef := (List.range n).map fun i => { comp := k, chunk := first + i }

theorem map_fst_runOf (k first : Nat) (r : Record) (n : Nat) :
    (runOf k first (codesOf r n)).map Prod.fst = runRefs k first n := by
  simp [runOf_codesOf, runRefs, List.map_map, Function.comp_def]

theorem mem_runRefs_iff {k first n : Nat} {x : ChunkRef} :
    x ∈ runRefs k first n ↔ x.comp = k ∧ first ≤ x.chunk ∧ x.chunk < first + n := by
  simp only [runRefs, List.mem_map, List.mem_range]
  constructor
  · rintro ⟨i, hi, rfl⟩
    exact ⟨rfl, Nat.le_add_right _ _, Nat.add_lt_add_left hi _⟩
  · rintro ⟨rfl, hlow, hhigh⟩
    exact ⟨x.chunk - first, by omega, by rw [Nat.add_sub_cancel' hlow]⟩

/-- A run that ends within a component is a part of the component's references, in order. -/
theorem runRefs_sublist {first n count : Nat} (h : first + n ≤ count) (k : Nat) :
    (runRefs k first n).Sublist ((List.range count).map fun i => { comp := k, chunk := i }) := by
  have hrun : runRefs k first n = (List.range' first n).map fun i => { comp := k, chunk := i } := by
    simp [runRefs, List.range'_eq_map_range, List.map_map, Function.comp_def]
  have hsplit : List.range count = List.range' 0 first ++ (List.range' (0 + first) n ++
      List.range' (0 + first + n) (count - (first + n))) := by
    rw [List.range'_append_1, List.range'_append_1, List.range_eq_range', ← Nat.add_assoc, Nat.add_sub_cancel' h]
  rw [hrun, hsplit, Nat.zero_add]
  exact ((List.sublist_append_left _ _).trans (List.sublist_append_right _ _)).map _

theorem expectedOf_isNone {r : ChunkRef} (hfound : ∃ c, findChunk s r = some c) :
    (expectedOf s r).isNone = (findChunk s r).any fun c => c.expected.isNone := by
  obtain ⟨c, hc⟩ := hfound
  simp [expectedOf, hc]

/-- What a run of codes leaves: the chunk records, the queue, and how many chunks took a code (R64). -/
structure Coded (s : State) (run : List (ChunkRef × Word32)) (chunks : List Chunk) (queue : List ChunkRef)
    (fresh : Nat) : Prop where
  stored : run.foldl (fun s p => storeCode p s) s = { s with ckt := { chunks := chunks, queue := queue } }
  counted : (run.filter fun p => (expectedOf s p.1).isNone).length = fresh

/-- R64: what the run of a CODES body leaves, its chunks standing in set order. -/
theorem coded_of_run (h : served s = true) (hrefs : (s.ckt.chunks.map Chunk.ref).Nodup) {k first n : Nat}
    (hK : (runRefs k first n).Sublist (s.ckt.chunks.map Chunk.ref)) {codeFor : ChunkRef → Option Word32}
    (hcode : ∀ p ∈ runOf k first (codesOf r n), codeFor p.1 = some p.2) {takes : Chunk → Bool}
    (htakes : ∀ x, takes x = true ↔ x.expected = none ∧ x.ref ∈ runRefs k first n) :
    Coded s (runOf k first (codesOf r n))
      (s.ckt.chunks.map fun x => if takes x then afterCode (codeFor x.ref) x else x)
      (s.ckt.queue ++ (s.ckt.chunks.filter fun x => takes x && x.state == .uncoded).map Chunk.ref)
      (s.ckt.chunks.filter takes).length := by
  refine ⟨?_, ?_⟩
  · have hnodup : ((runOf k first (codesOf r n)).map Prod.fst).Nodup := map_fst_runOf k first r n ▸ hrefs.sublist hK
    have hwakes (x : Chunk) : decide (x.ref ∈ runRefs k first n ∧ codeWakes x = true) =
        (takes x && x.state == .uncoded) := by
      rw [Bool.eq_iff_iff]
      simp only [codeWakes, decide_eq_true_eq, Bool.and_eq_true, htakes, beq_iff_eq]
      tauto
    rw [foldl_storeCode h hrefs hnodup hcode, map_fst_runOf, filter_findChunk hrefs hK]
    simp only [hwakes, htakes]
  · have hfound : ∀ q ∈ runRefs k first n, ∃ c, findChunk s q = some c := fun q hq => by
      obtain ⟨c, hc, rfl⟩ := List.mem_map.1 (hK.subset hq)
      exact ⟨c, findChunk_of_mem hrefs hc⟩
    have htake (x : Chunk) : decide (x.ref ∈ runRefs k first n ∧ x.expected.isNone = true) = takes x := by
      rw [Bool.eq_iff_iff]
      simp only [decide_eq_true_eq, htakes, Option.isNone_iff_eq_none, and_comm]
    calc ((runOf k first (codesOf r n)).filter fun p => (expectedOf s p.1).isNone).length
        = ((runRefs k first n).filter fun q => (expectedOf s q).isNone).length := by
          rw [← map_fst_runOf k first r n, List.filter_map, List.length_map]; rfl
      _ = ((runRefs k first n).filter fun q => (findChunk s q).any fun c => c.expected.isNone).length := by
          rw [List.filter_congr fun q hq => expectedOf_isNone (hfound q hq)]
      _ = (s.ckt.chunks.filter takes).length := by
          rw [filter_findChunk hrefs hK, List.length_map]; simp only [htake]

/-- R64: the effects of a run, given what it leaves. -/
theorem acceptCodes_eq {run : List (ChunkRef × Word32)} {chunks : List Chunk} {queue : List ChunkRef} {fresh : Nat}
    (h : Coded s run chunks queue fresh) (k : Nat) (c : Component) (r : Record) : acceptCodes k c run r s =
      let t : State := { s with ckt := { chunks := chunks, queue := queue } }
      let d : Component := { c with coded := c.coded + fresh }
      if fresh ≠ 0 ∧ c.coded + fresh = c.chunkCount ∧ ¬ c.checked then
        if componentCode c.ident ((chunks.filter fun x => x.ref.comp = k).map fun x => x.expected.getD 0) = c.code then
          countRecord r (putComponent k { d with checked := true } t)
        else rejectNamed .componentCode r (putComponent k d t)
      else countRecord r (putComponent k d t) := by
  have htwice (d e : Component) (t : State) : putComponent k d (putComponent k e t) = putComponent k d t := by
    simp only [putComponent_eq, Vector.setIfInBounds_setIfInBounds]
  simp only [acceptCodes, h.stored, h.counted, htwice]
  rfl

theorem exec_codesRecord_of_ok {cs : CurrentSet} (h : PassesGate s r cs) {k : Nat} {c : Component}
    {run : List (ChunkRef × Word32)} (hv : codesVerdict cs r s = .ok (k, c, run)) :
    exec (.codesRecord r) s = .next (acceptCodes k c run r s) := by
  simp only [exec_codesRecord h.handed, takeCodes, gate_of_passes h, hv]

/-- Settles O33: the verdict gives the run, the run's chunks take their codes in set order, and the count of coded
chunks decides on the component code. -/
theorem codesAreStored : Obligations.CodesAreStored := by
  intro s r cs k n first fresh c codeFor takes chunks h hk hn hfirst h1 h61 hl hbelow hk8 hc hrun hcodes hheld horder
    hrefs hcodeFor htakes hchunks hfresh coded finished agrees counted
  have hv : codesVerdict cs r s = .ok (k, c, runOf k first (codesOf r n)) := by
    rw [codesVerdict_of_declared hk hn hfirst ⟨h1, h61, hl⟩ hbelow hc, if_neg (not_lt.2 hrun),
      if_neg (not_not.2 hcodes), if_neg]
    rintro ⟨i, hi, hany⟩
    obtain ⟨held, hat, hne⟩ := any_ne_iff.1 hany
    exact hne (hheld i hi held hat)
  have hK : (runRefs k first n).Sublist (s.ckt.chunks.map Chunk.ref) := by
    rw [horder]
    exact (runRefs_sublist hrun k).trans ((List.sublist_append_right _ _).trans (List.sublist_append_left _ _))
  have hserved : served s = true := by simp [served, h.handed.1, h.receiving, liveState]
  have htake (x : Chunk) : takes x = true ↔ x.expected = none ∧ x.ref ∈ runRefs k first n := by
    rw [htakes, hcodeFor, mem_runRefs_iff]
    by_cases hx : x.ref.comp = k ∧ first ≤ x.ref.chunk ∧ x.ref.chunk < first + n <;> simp [hx]
  have hcode : ∀ p ∈ runOf k first (codesOf r n), codeFor p.1 = some p.2 := by
    rw [runOf_codesOf]
    rintro p hp
    obtain ⟨i, hi, rfl⟩ := List.mem_map.1 hp
    simp [hcodeFor, List.mem_range.1 hi]
  have hleaves := coded_of_run hserved hrefs hK hcode htake
  have hfinished : finished ↔ fresh ≠ 0 ∧ c.coded + fresh = c.chunkCount ∧ ¬ c.checked = true := by
    rw [Bool.not_eq_true]
  rw [exec_codesRecord_of_ok h hv, acceptCodes_eq hleaves]
  subst hchunks hfresh
  refine ⟨fun hopen => congrArg _ (if_neg (mt hfinished.2 hopen)), fun hdone hagree => congrArg _ ?_,
    fun hdone hdiffer => ⟨_, congrArg _ ((if_pos (hfinished.1 hdone)).trans (if_neg hdiffer)), ?_⟩⟩
  · exact (if_pos (hfinished.1 hdone)).trans (if_pos hagree)
  · have hbody : r.body = byteAt r.body 0 :: r.body.tail := by
      cases hb : r.body with
      | nil => rw [hb, List.length_nil] at hl; omega
      | cons b rest => rfl
    have hseq : defaultSeq s = cs.seq := defaultSeq_of_set h.set_eq
    rw [rejectNamed_of_body hbody, reject_eq, ← hseq]
    exact ⟨rfl, rfl, rfl, rfl, rfl, rfl⟩

end Codes

end Sys2Proof.Machine
end

section
/-!
PROOF. The outcome of a scan (spec 05 sections 5.4 and 5.5, spec 06 section 6.4): the last byte of a chunk hands its
outcome, and the set state decides what it does.
-/

namespace Sys2Proof.Machine

section

variable {s : State} {k : Chunk}

/-! ### The last byte (R105, R108) -/

/-- R105: the last byte of an even chunk is the high byte of the word held. -/
theorem foldByte_lanes_of_held {x : ScanContext} {low : Byte} (h : x.held = some low) (b : Byte) (last : Bool) :
    (foldByte x b last).lanes = laneStep x.lanes (low.toNat + 256 * b.toNat) := by
  simp only [foldByte, h, wordOf]

/-- R95, R105: the last byte of an odd chunk takes FFh as its high byte. -/
theorem foldByte_lanes_of_odd {x : ScanContext} (h : x.held = none) (b : Byte) :
    (foldByte x b true).lanes = laneStep x.lanes (b.toNat + 256 * 255) := by
  simp only [foldByte, h, wordOf, if_true]
  rfl

/-- R78, R108: the last byte of the chunk is the one that fills its length. -/
theorem lastByte_of_length {x : ScanContext} {cs : CurrentSet} {c : Component} (hs : s.stm.set = some cs)
    (hc : componentAt s x.ref.comp = some c)
    (hlast : 2 * x.offset + (if x.held = none then 0 else 1) + 1 =
      if x.ref.chunk + 1 = c.chunkCount then c.length - (c.chunkCount - 1) * 2 ^ cs.chunkExp else 2 ^ cs.chunkExp) :
    lastByte s x = true := by
  have hlen : chunkLength cs c x.ref.chunk = bytePosition x + 1 := by
    rw [bytePosition, ← show _ = chunkLength cs c x.ref.chunk from hlast]
    cases x.held <;> rfl
  simp [lastByte, extentOf, hs, hc, hlen]

/-- R108: the last byte of a scan read hands the outcome of its chunk. -/
theorem exec_scanComplete_of_last {x : ScanContext} (hport : s.trc.flash.map FlashTxn.owner = some .scan)
    (hx : s.scan = some x) (hlast : lastByte s x = true) (hk : k ∈ s.ckt.chunks) (href : k.ref = x.ref)
    (hrefs : (s.ckt.chunks.map Chunk.ref).Nodup) (b : Byte) : exec (.scanComplete b) s =
      .next (scanOutcome (k.expected == some (code32 (foldByte x b true).lanes)) k s) := by
  have howned : portOwnedBy .scan s = true := by simp [portOwnedBy, hport]
  have hfind : findChunk s x.ref = some k := href ▸ findChunk_of_mem hrefs hk
  simp [exec, execScanComplete, hx, howned, hlast, scanByte, hfind]

/-! ### Outcomes by the set state (R86, R87) -/

/-- The state in which a chunk has taken its outcome, the context gone and the read ended (R108). -/
def atRest (s : State) (k : Chunk) (st : ChunkState) : State := { s with
  scan := none, trc := { s.trc with flash := none }
  ckt := { s.ckt with chunks := s.ckt.chunks.map fun y => if y.ref = k.ref then { y with state := st } else y } }

theorem moveChunk_dropScan (hport : s.trc.flash.map FlashTxn.owner = some .scan) (k : Chunk) (st : ChunkState) :
    moveChunk k.ref st (dropScan s) = atRest s k st := by
  rw [dropScan_eq, if_pos hport]; rfl

theorem scanOutcome_of_preparing (h : preparing s.stm.setState = true) (good : Bool) (k : Chunk) :
    scanOutcome good k s = preparedOutcome good k (dropScan s) := by
  have hstate : (dropScan s).stm.setState = s.stm.setState := by rw [dropScan_eq]
  simp only [scanOutcome, hstate]
  cases hx : s.stm.setState <;> simp [hx, preparing] at h ⊢

theorem scanOutcome_of_health (h : s.stm.setState = .trial ∨ s.stm.setState = .installed) (good : Bool) (k : Chunk) :
    scanOutcome good k s = healthOutcome good k (dropScan s) := by
  have hstate : (dropScan s).stm.setState = s.stm.setState := by rw [dropScan_eq]
  obtain h | h := h <;> simp only [scanOutcome, hstate, h]

theorem scanOutcome_of_committing (h : s.stm.setState = .committing) (good : Bool) (k : Chunk) :
    scanOutcome good k s = moveChunk k.ref (if good then .good else .bad) (dropScan s) := by
  have hstate : (dropScan s).stm.setState = s.stm.setState := by rw [dropScan_eq]
  simp only [scanOutcome, hstate, h]

/-- R89: with the chunk GOOD, all are GOOD exactly if the others are. -/
theorem allGood_atRest : allGood (atRest s k .good) = true ↔
    ∀ y ∈ s.ckt.chunks, y.ref ≠ k.ref → y.state = .good := by
  rw [allGood_iff]
  simp only [atRest, List.forall_mem_map]
  refine forall₂_congr fun y _ => ?_
  by_cases hy : y.ref = k.ref <;> simp [hy]

/-- R67: the CLOSED set becomes READY as its last chunk becomes GOOD. -/
theorem reportAllGood_atRest (h : s.stm.setState = .closed) (k : Chunk) :
    reportAllGood (atRest s k .good) = { atRest s k .good with
      stm := { s.stm with setState := .ready }
      rpu := s.rpu.post .setReady (defaultSeq s) (detailCount s.ckt.chunks.length) } := by
  have hclosed : (atRest s k .good).stm.setState = .closed := h
  have hcount : (atRest s k .good).ckt.chunks.length = s.ckt.chunks.length := List.length_map _
  rw [reportAllGood_eq, if_pos hclosed, enterReady_eq, hcount]
  rfl

theorem preparedOutcome_good (hport : s.trc.flash.map FlashTxn.owner = some .scan) (k : Chunk) :
    preparedOutcome true k (dropScan s) =
      if allGood (atRest s k .good) then reportAllGood (atRest s k .good) else atRest s k .good := by
  simp only [preparedOutcome, moveChunk_dropScan hport, if_true]

theorem preparedOutcome_bad (hport : s.trc.flash.map FlashTxn.owner = some .scan) (k : Chunk) :
    preparedOutcome false k (dropScan s) =
      if k.written then countMismatch k.ref (atRest s k .bad) else atRest s k .bad := by
  simp only [preparedOutcome, moveChunk_dropScan hport, Bool.false_eq_true, if_false]

/-- R86: the state in which a mismatch has been counted, before the threshold is applied. -/
def mismatchCounted (s : State) (k : Chunk) : State := { atRest s k .bad with
  ckt := { s.ckt with chunks := s.ckt.chunks.map fun y =>
    if y.ref = k.ref then { y with state := .bad, mismatches := min 15 (y.mismatches + 1) } else y }
  stm := { s.stm with mismatchTotal := min 65535 (s.stm.mismatchTotal + 1) }
  rpu := s.rpu.post .chunkBad (defaultSeq s) (detailChunk k.ref) }

theorem countMismatch_atRest (s : State) (k : Chunk) :
    countMismatch k.ref (atRest s k .bad) = applyThreshold (mismatchCounted s k) := by
  refine congrArg applyThreshold ?_
  simp only [updateChunk_eq, post_eq, atRest, mismatchCounted, List.map_map]
  simp only [State.setStm, State.mk.injEq, Ckt.mk.injEq, true_and, and_true]
  refine ⟨List.map_congr_left fun y _ => ?_, rfl⟩
  by_cases hy : y.ref = k.ref <;> simp [hy]

/-- R87: a BAD outcome in TRIAL or INSTALLED. -/
def sickened (s : State) (k : Chunk) : State := { atRest s k .bad with
  rpu := s.rpu.post .healthBad (defaultSeq s) (detailChunk k.ref) }

theorem healthOutcome_good (hport : s.trc.flash.map FlashTxn.owner = some .scan) (k : Chunk) :
    healthOutcome true k (dropScan s) = atRest s k .good := by
  simp only [healthOutcome, moveChunk_dropScan hport, if_true]

theorem healthOutcome_bad (hport : s.trc.flash.map FlashTxn.owner = some .scan) (k : Chunk) :
    healthOutcome false k (dropScan s) =
      if s.stm.setState = .trial ∧ s.bsv.demand.isNone then demandRevert .damaged (sickened s k) else sickened s k := by
  simp only [healthOutcome, moveChunk_dropScan hport, Bool.false_eq_true, if_false]
  rfl

/-- Settles O45: the last byte hands the outcome of the chunk, and each clause is a branch of it by the set state. -/
theorem scanOutcomesAreApplied : Obligations.ScanOutcomesAreApplied := by
  intro s b f x cs c k len last hf howner hx hs hc hk href hrefs hlen hlast hlanes outcome good counted capped sick
  have hport : s.trc.flash.map FlashTxn.owner = some .scan := by rw [hf, Option.map_some, howner]
  have hexec := exec_scanComplete_of_last hport hx (lastByte_of_length hs hc (hlast.trans hlen)) hk href hrefs b
  have hfold : (foldByte x b true).lanes = last := by
    cases hh : x.held with
    | none => rw [foldByte_lanes_of_odd hh, hlanes, hh]
    | some low => rw [foldByte_lanes_of_held hh, hlanes, hh]
  rw [hfold] at hexec
  have hseq : defaultSeq s = cs.seq := defaultSeq_of_set hs
  have hcounted : mismatchCounted s k = counted := by rw [mismatchCounted, hseq]; rfl
  have hsick : sickened s k = sick := by rw [sickened, hseq]; rfl
  have hgood (hg : good) : exec (.scanComplete b) s = .next (scanOutcome true k s) := by
    rw [hexec, beq_iff_eq.2 hg]
  have hbad (hg : ¬ good) : exec (.scanComplete b) s = .next (scanOutcome false k s) := by
    rw [hexec, beq_eq_false_iff_ne.2 hg]
  have hstays (h : ¬ (s.stm.setState = .closed ∧ ∀ y ∈ s.ckt.chunks, y.ref ≠ k.ref → y.state = .good)) :
      (if allGood (atRest s k .good) then reportAllGood (atRest s k .good) else atRest s k .good) = outcome .good := by
    split
    next hall => exact if_neg fun hclosed => h ⟨hclosed, allGood_atRest.1 hall⟩
    next => rfl
  refine ⟨fun hp => ⟨fun hg hopen => ?_, fun hg hclosed hall => ?_, fun hg hw => ?_, fun hg hw hcap => ?_,
    fun hg hw hcap => ?_⟩, fun hst hg => ?_, fun hst hg => ?_, fun hst hg => ?_,
    fun hst => ⟨fun hg => ?_, fun hg => ?_⟩⟩
  · rw [hgood hg, scanOutcome_of_preparing hp, preparedOutcome_good hport, hstays hopen]
  · rw [hgood hg, scanOutcome_of_preparing hp, preparedOutcome_good hport, if_pos (allGood_atRest.2 hall),
      reportAllGood_atRest hclosed, hseq]
    rfl
  · rw [hbad hg, scanOutcome_of_preparing hp, preparedOutcome_bad hport, hw]
    rfl
  · rw [hbad hg, scanOutcome_of_preparing hp, preparedOutcome_bad hport, if_pos hw, countMismatch_atRest, hcounted]
    exact congrArg _ (if_neg fun ⟨hT, hle, _⟩ => hcap ⟨hT, hle⟩)
  · rw [hbad hg, scanOutcome_of_preparing hp, preparedOutcome_bad hport, if_pos hw, countMismatch_atRest, hcounted]
    refine congrArg _ ((if_pos ⟨hcap.1, hcap.2, hp⟩).trans ?_)
    have hnamed : defaultSeq counted = cs.seq := defaultSeq_of_set hs
    rw [reject_eq, hnamed]
    rfl
  · rw [hgood hg, scanOutcome_of_health hst, healthOutcome_good hport]
    rfl
  · rw [hbad hg, scanOutcome_of_health (.inr hst), healthOutcome_bad hport, hsick, if_neg (by simp [hst])]
  · rw [hbad hg, scanOutcome_of_health (.inl hst), healthOutcome_bad hport, hsick]
    refine ⟨fun hd => ?_, fun hd hfl => ?_, fun hd hfl hgen => ?_, fun hd hfl hgen => ?_⟩
    · rw [if_neg (by simp [hd])]
    all_goals rw [if_pos ⟨hst, Option.isNone_iff_eq_none.2 hd⟩]
    · rw [demandRevert_of_busy (s := sick) hd hfl]
    · rw [demandRevert_of_free (s := sick) hd hfl hgen]
      rfl
    · have hnamed : defaultSeq sick = cs.seq := defaultSeq_of_set hs
      rw [demandRevert_of_spent (s := sick) hd hfl hgen, hnamed]
      rfl
  · rw [hgood hg, scanOutcome_of_committing hst, moveChunk_dropScan hport]
    rfl
  · rw [hbad hg, scanOutcome_of_committing hst, moveChunk_dropScan hport]
    rfl

end

end Sys2Proof.Machine
end

section
/-!
PROOF. Program and erase notices (spec 05 sections 5.2 and 5.3): what they do to the chunks they touch, one after another, as
one change of the chunk records and of the queue.
-/

namespace Sys2Proof.Machine

/-! ### Each chunk that is picked, once -/

/-- A record changed in view of `c` if it has the reference of `c`. -/
def amended (g : Chunk → Chunk → Chunk) (x c : Chunk) : Chunk := if x.ref = c.ref then g c x else x

section Amend

variable {g : Chunk → Chunk → Chunk} {cs l : List Chunk} {x : Chunk}

theorem foldl_map_amended (g : Chunk → Chunk → Chunk) (cs l : List Chunk) :
    cs.foldl (fun l c => l.map (amended g · c)) l = l.map fun x => cs.foldl (amended g) x := by
  induction cs generalizing l with
  | nil => simp
  | cons c cs ih => rw [List.foldl_cons, ih, List.map_map]; rfl

theorem foldl_amended_of_ne (hx : ∀ c ∈ cs, x.ref ≠ c.ref) : cs.foldl (amended g) x = x := by
  induction cs with
  | nil => rfl
  | cons c cs ih =>
    rw [List.foldl_cons, amended, if_neg (hx c List.mem_cons_self), ih fun d hd => hx d (List.mem_cons_of_mem c hd)]

/-- Of chunks each of its own reference only the record itself changes it. -/
theorem foldl_amended (hg : ∀ c x, (g c x).ref = x.ref) (hrefs : (cs.map Chunk.ref).Nodup)
    (hx : ∀ c ∈ cs, x.ref = c.ref → x = c) : cs.foldl (amended g) x = if x ∈ cs then g x x else x := by
  induction cs with
  | nil => rfl
  | cons c cs ih =>
    obtain ⟨hnot, hrefs⟩ := List.nodup_cons.1 hrefs
    rw [List.foldl_cons]
    by_cases hc : x.ref = c.ref
    · obtain rfl := hx c List.mem_cons_self hc
      have hrest : ∀ d ∈ cs, (g x x).ref ≠ d.ref := fun d hd he =>
        hnot (List.mem_map.2 ⟨d, hd, (he.symm.trans (hg x x))⟩)
      rw [amended, if_pos rfl, foldl_amended_of_ne hrest, if_pos List.mem_cons_self]
    · have hne : x ≠ c := fun he => hc (he ▸ rfl)
      rw [amended, if_neg hc, ih hrefs fun d hd => hx d (List.mem_cons_of_mem c hd)]
      simp [hne]

/-- The records of a list, those that `pick` picks each changed once. -/
theorem foldl_map_amended_filter (hg : ∀ c x, (g c x).ref = x.ref) (hrefs : (l.map Chunk.ref).Nodup)
    (pick : Chunk → Bool) : (l.filter pick).foldl (fun l c => l.map (amended g · c)) l =
      l.map fun x => if pick x then g x x else x := by
  rw [foldl_map_amended]
  refine List.map_congr_left fun x hx => ?_
  rw [foldl_amended hg (hrefs.sublist (List.filter_sublist.map Chunk.ref)) fun c hc hr =>
    List.inj_on_of_nodup_map hrefs hx (List.mem_filter.1 hc).1 hr]
  simp [List.mem_filter, hx]

end Amend

/-! ### The chunks that leave SCANNING and GOOD (R67, R82, R83) -/

section Departed

variable {s : State}

/-- The state once the chunks `cs` have left the states they hold: a scan of one of them is dropped, and a READY set of
which one was GOOD is CLOSED. -/
def departed (cs : List Chunk) (s : State) : State := { s with
  scan := if cs.any fun c => c.state == .scanning then none else s.scan
  trc := if (cs.any fun c => c.state == .scanning) = true ∧ s.trc.flash.map FlashTxn.owner = some .scan then
    { s.trc with flash := none } else s.trc
  stm := { s.stm with setState :=
    if s.stm.setState = .ready ∧ ∃ c ∈ cs, c.state = .good then .closed else s.stm.setState } }

theorem departed_nil (s : State) : departed [] s = s := by simp [departed]

/-- Chunks leave their states one after another as they do together. -/
theorem departed_cons (c : Chunk) (cs : List Chunk) (s : State) : departed cs (departed [c] s) = departed (c :: cs) s := by
  simp only [departed, State.mk.injEq, Stm.mk.injEq, true_and, and_true, List.any_cons, List.any_nil, Bool.or_false]
  refine ⟨?_, ?_, ?_⟩
  · by_cases hc : c.state = .scanning <;> by_cases hp : s.trc.flash.map FlashTxn.owner = some .scan <;> simp [hc, hp]
  · by_cases hr : s.stm.setState = .ready <;> by_cases hg : c.state = .good <;> simp [hr, hg]
  · by_cases hc : c.state = .scanning <;> simp [hc]

theorem served_departed (cs : List Chunk) (s : State) : served (departed cs s) = served s := by
  simp only [served, departed]
  split
  next h => rw [h.1]; rfl
  next => rfl

/-- An operation on one chunk after another: the chunks leave their states, and the tracker's blocks change in turn. -/
theorem forEachChunk_eq_departed {f : Chunk → State → State} {k : Bool → Ckt → Chunk → Ckt}
    (hf : ∀ c s, f c s = departed [c] { s with ckt := k (served s) s.ckt c }) (cs : List Chunk) (s : State) :
    forEachChunk f cs s = departed cs { s with ckt := cs.foldl (k (served s)) s.ckt } := by
  induction cs generalizing s with
  | nil => exact (departed_nil s).symm
  | cons c cs ih =>
    rw [forEachChunk_cons, ih, hf, served_departed]
    exact departed_cons c cs { s with ckt := (c :: cs).foldl (k (served s)) s.ckt }

end Departed

/-! ### A program notice (R80 to R82) -/

section Program

variable {s : State}

/-- R82: the record `x` of the touched chunk `c`. -/
def programmed (c x : Chunk) : Chunk :=
  { x with written := true, state := if c.state = .uncoded ∨ c.state = .dirty then x.state else .dirty }

theorem programmed_self (c : Chunk) : programmed c c = afterProgram c := by
  cases h : c.state <;> simp [programmed, afterProgram, h]

/-- R82: a coded chunk that is not DIRTY joins the queue. -/
def programQueues (c : Chunk) : Bool := c.state != .uncoded && c.state != .dirty

/-- R82: the records and the queue, served or not, after a notice that touches the chunk `c`. -/
def programTracked (b : Bool) (k : Ckt) (c : Chunk) : Ckt where
  chunks := k.chunks.map (amended programmed · c)
  queue := if b then k.queue ++ (if programQueues c then [c.ref] else []) else k.queue

/-- R82: a touched chunk becomes DIRTY, written, and joins a served queue. -/
theorem enqueue_moveChunk_written (r : ChunkRef) (s : State) :
    enqueue r (moveChunk r .dirty (updateChunk r (fun x => { x with written := true }) s)) = { s with ckt := {
      chunks := s.ckt.chunks.map fun x => if x.ref = r then { x with written := true, state := .dirty } else x
      queue := if served s then s.ckt.queue ++ [r] else s.ckt.queue } } := by
  have hchunks : (s.ckt.chunks.map fun x => if x.ref = r then { x with written := true } else x).map
      (fun x => if x.ref = r then { x with state := .dirty } else x) =
        s.ckt.chunks.map fun x => if x.ref = r then { x with written := true, state := .dirty } else x := by
    rw [List.map_map]
    refine List.map_congr_left fun x _ => ?_
    by_cases hx : x.ref = r <;> simp [hx]
  rw [enqueue_eq, moveChunk_eq, updateChunk_eq, ← hchunks]
  rfl

theorem dropScan_updateChunk (r : ChunkRef) (f : Chunk → Chunk) (s : State) :
    dropScan (updateChunk r f s) = updateChunk r f (dropScan s) := by
  rw [dropScan_eq, dropScan_eq]; rfl

theorem served_dropScan (s : State) : served (dropScan s) = served s := by rw [dropScan_eq]; rfl

theorem programChunk_eq_departed (c : Chunk) (s : State) :
    programChunk c s = departed [c] { s with ckt := programTracked (served s) s.ckt c } := by
  rw [programChunk_eq]
  cases hc : c.state
  case uncoded | dirty =>
    simp [departed, programTracked, programQueues, amended, programmed, hc, updateChunk_eq]
  case erased | bad =>
    simp [departed, programTracked, programQueues, amended, programmed, hc, enqueue_moveChunk_written]
  case scanning =>
    dsimp only
    rw [dropScan_updateChunk, enqueue_moveChunk_written, served_dropScan, dropScan_eq]
    simp [departed, programTracked, programQueues, amended, programmed, hc]
  case good =>
    simp [departed, programTracked, programQueues, amended, programmed, hc, enqueue_moveChunk_written,
      reportLeftGood_eq]

theorem foldl_programTracked (b : Bool) (cs : List Chunk) (k : Ckt) : cs.foldl (programTracked b) k = {
    chunks := cs.foldl (fun l c => l.map (amended programmed · c)) k.chunks
    queue := if b then k.queue ++ (cs.filter programQueues).map Chunk.ref else k.queue } := by
  induction cs generalizing k with
  | nil => cases b <;> simp
  | cons c cs ih =>
    rw [List.foldl_cons, ih]
    cases b <;> cases hc : programQueues c <;> simp [programTracked, hc]

end Program

/-- Settles O24: the notice is one departure of the touched chunks, each of which is amended once. -/
theorem programNoticeMakesDirty : Obligations.ProgramNoticeMakesDirty := by
  intro s page hrefs
  refine ⟨fun h => if_neg ?_, fun hlive htakes => ?_⟩
  · obtain h | h := h <;> simp [h]
  · have hnotice : noticeProgram page s =
        forEachChunk programChunk (s.ckt.chunks.filter fun c => touches s c.ref page 256) s := by
      simp [noticeProgram, hlive, htakes]
    rw [hnotice, forEachChunk_eq_departed programChunk_eq_departed, foldl_programTracked,
      foldl_map_amended_filter (g := programmed) (fun _ _ => rfl) hrefs]
    simp only [programmed_self, departed, List.any_filter, List.filter_filter, List.mem_filter, and_assoc,
      programQueues, Bool.and_comm, Bool.and_assoc]

/-! ### An erase notice (R80, R81, R83) -/

section Erase

/-- R83: the record `x` of the touched chunk `c`. -/
def erased (c x : Chunk) : Chunk :=
  { x with state := if c.state = .uncoded ∨ c.state = .erased then x.state else .erased }

theorem erased_self (c : Chunk) : erased c c = afterErase c := by
  cases h : c.state <;> simp [erased, afterErase, h]

/-- R83: the records and the queue after a notice that touches the chunk `c`. -/
def eraseTracked (k : Ckt) (c : Chunk) : Ckt where
  chunks := k.chunks.map (amended erased · c)
  queue := if c.state = .dirty then k.queue.filter fun r => r ≠ c.ref else k.queue

theorem eraseChunk_eq_departed (c : Chunk) (s : State) :
    eraseChunk c s = departed [c] { s with ckt := eraseTracked s.ckt c } := by
  unfold eraseChunk
  cases hc : c.state
  case uncoded | erased => simp [departed, eraseTracked, amended, erased, hc]
  case dirty => simp [departed, eraseTracked, amended, erased, hc, dequeue_eq, moveChunk_eq]
  case scanning => simp [departed, eraseTracked, amended, erased, hc, dropScan_eq, moveChunk_eq]
  case good => simp [departed, eraseTracked, amended, erased, hc, moveChunk_eq, reportLeftGood_eq]
  case bad => simp [departed, eraseTracked, amended, erased, hc, moveChunk_eq]

theorem foldl_eraseTracked (cs : List Chunk) (k : Ckt) : cs.foldl eraseTracked k = {
    chunks := cs.foldl (fun l c => l.map (amended erased · c)) k.chunks
    queue := k.queue.filter fun r => !(cs.any fun c => c.state == .dirty && c.ref == r) } := by
  induction cs generalizing k with
  | nil => simp
  | cons c cs ih =>
    rw [List.foldl_cons, ih]
    by_cases hc : c.state = .dirty
    · have hleft (r : ChunkRef) : (c.ref == r) = decide (r = c.ref) := by
        rw [Bool.beq_eq_decide_eq, decide_eq_decide, eq_comm]
      simp [eraseTracked, hc, hleft, List.filter_filter, Bool.and_comm]
    · simp [eraseTracked, hc, beq_eq_false_iff_ne.2 hc]

end Erase

/-- Settles O25: the notice is one departure of the touched chunks, each of which is amended once. -/
theorem eraseNoticeMakesErased : Obligations.EraseNoticeMakesErased := by
  intro s gs touched hrefs htouched
  refine ⟨fun h => if_neg (by simp [h]), fun hlive => ?_⟩
  have hpick : touched = fun c => (gs.filter (takesGranule s)).any fun g => touches s c.ref (g * 4096) 4096 :=
    funext fun c => Bool.eq_iff_iff.2 (by simp [htouched])
  have hnotice : noticeErase gs s = forEachChunk eraseChunk (s.ckt.chunks.filter touched) s := by
    rw [hpick]; exact if_pos hlive
  rw [hnotice, forEachChunk_eq_departed (k := fun _ => eraseTracked) eraseChunk_eq_departed, foldl_eraseTracked,
    foldl_map_amended_filter (g := erased) (fun _ _ => rfl) hrefs]
  simp only [erased_self, departed, List.any_filter, List.mem_filter, and_assoc, Bool.and_assoc]

end Sys2Proof.Machine
end

section
/-!
PROOF. How a scan starts, resumes and folds its bytes (spec 06 sections 6.3 and 6.4).
-/

namespace Sys2Proof.Machine

section

variable {s : State} {e : CmdEntry} {cs : CurrentSet} {c : Component} {r : ChunkRef} {x : ScanContext}

/-! ### The read of a scan (R104, R105, R107) -/

theorem scanMayRun_of_idle (hserved : served s = true) (ho : s.trc.txn.isOpen = false ∨ s.trc.txn.inStarting = true)
    (hf : s.trc.flash = none) (hcleanup : s.trc.cleanup = false) (hbusy : s.trc.busy = none) : scanMayRun s = true := by
  simp [scanMayRun, hserved, portFree_of_idle ho hf, hcleanup, flashBusy, hbusy]

theorem scanRead_of_set (he : firstEntry s.settings .read = some e) (hs : s.stm.set = some cs)
    (hc : componentAt s r.comp = some c) (offset : Nat) : scanRead s r offset = some {
      owner := .scan, code := e.code, addr := some (BitVec.ofNat 24 (chunkStart s.settings cs c r.chunk + 2 * offset))
      dummies := e.dummies } := by
  simp [scanRead, he, extentOf, hs, hc]

theorem exec_scanStart_of_head {rest : List ChunkRef} {f : FlashTxn} (hmay : scanMayRun s = true) (hscan : s.scan = none)
    (hq : s.ckt.queue = r :: rest) (hc : componentAt s r.comp = some c) (hread : scanRead s r 0 = some f) :
    exec .scanStart s = .next (takeHead r rest c f s) := by
  simp [exec, execScanStart, hq, hc, hread, hscan, hmay]

theorem exec_scanResume_of_held {f : FlashTxn} (hmay : scanMayRun s = true) (hx : s.scan = some x)
    (hread : scanRead s x.ref x.offset = some f) : exec .scanResume s = .next (takePort f s) := by
  simp [exec, execScanResume, hx, hread, hmay]

/-! ### Bytes of a scan (R105, R108) -/

theorem lastByte_iff (hs : s.stm.set = some cs) (hc : componentAt s x.ref.comp = some c) : lastByte s x = true ↔
    2 * x.offset + (if x.held = none then 0 else 1) + 1 =
      if x.ref.chunk + 1 = c.chunkCount then c.length - (c.chunkCount - 1) * 2 ^ cs.chunkExp else 2 ^ cs.chunkExp := by
  have hposition : bytePosition x = 2 * x.offset + (if x.held = none then 0 else 1) := by
    unfold bytePosition
    cases x.held <;> rfl
  rw [← hposition]
  simp [lastByte, extentOf, hs, hc, chunkLength, chunkSize]

theorem exec_scanWord_of_inner (hport : portOwnedBy .scan s = true) (hx : s.scan = some x) (hl : lastByte s x = false)
    (b : Byte) : exec (.scanWord b) s = .next { s with scan := some (foldByte x b false) } := by
  have hfold : scanByte b x s = { s with scan := some (foldByte x b false) } := if_neg (by simp [hl])
  simp [exec, execScanWord, hx, hport, hfold]

theorem exec_scanComplete_of_inner (hx : s.scan = some x) (hl : lastByte s x = false) (b : Byte) :
    exec (.scanComplete b) s = .next s := by
  simp [exec, execScanComplete, hx, hl]

theorem exec_scanWord_of_last (hx : s.scan = some x) (hl : lastByte s x = true) (b : Byte) :
    exec (.scanWord b) s = exec (.scanComplete b) s := by
  simp [exec, execScanWord, execScanComplete, hx, hl]

end

/-- Settles O44: a start and a resumption send the read of `scanRead_of_set`; a byte is folded by whether it is the
chunk's last. -/
theorem scansStartResumeAndFold : Obligations.ScansStartResumeAndFold := by
  refine ⟨fun s e cs c r start hserved ho hf hcleanup hbusy he hs hc hstart => ?_,
    fun code address dummies dummy haddr => ?_,
    fun s b f x cs c len position hf howner hx hs hc hlen hposition => ?_⟩
  · have hmay := scanMayRun_of_idle hserved ho hf hcleanup hbusy
    have hread := scanRead_of_set he hs hc
    have hat : chunkStart s.settings cs c r.chunk = start := hstart.symm
    rw [hat] at hread
    refine ⟨fun rest hscan hq => exec_scanStart_of_head hmay hscan hq hc (hread 0), fun x hx href => ?_⟩
    exact exec_scanResume_of_held hmay hx (href ▸ hread x.offset)
  · have hnat : (BitVec.ofNat 24 address).toNat = address := by rw [BitVec.toNat_ofNat, Nat.mod_eq_of_lt haddr]
    simp [flashBytes, addrBytes_eq, hnat]
  · have hport : portOwnedBy .scan s = true := by simp [portOwnedBy_eq hf, howner]
    have hlast : lastByte s x = true ↔ position + 1 = len := by rw [hposition, hlen]; exact lastByte_iff hs hc
    have hinner (hne : position + 1 ≠ len) : lastByte s x = false := Bool.eq_false_iff.2 (mt hlast.1 hne)
    refine ⟨fun hne hh => ?_, fun low hne hh => ?_, fun hne => exec_scanComplete_of_inner hx (hinner hne) b,
      fun heq => exec_scanWord_of_last hx (hlast.2 heq) b⟩
    · rw [exec_scanWord_of_inner hport hx (hinner hne)]
      simp [foldByte, hh]
    · rw [exec_scanWord_of_inner hport hx (hinner hne)]
      simp [foldByte, hh, wordOf]

end Sys2Proof.Machine
end

section
/-!
PROOF. The first and the second law without the fourth (spec 05): the laws ask of the set state only whether it is live.
A set state hidden behind that answer is neither READY nor COMMITTING, so what is known of tracked states applies, with no
chunk that has to be GOOD.
-/

namespace Sys2Proof.Machine

section

variable {s t u : State}

/-! ### A hidden set state -/

/-- The state with its set state hidden: CLOSED where it is live, IDLE where it is not. -/
def calmed (s : State) : State := setSetState (if liveState s.stm.setState then .closed else .idle) s

theorem calmed_setState_eq (s : State) :
    (calmed s).stm.setState = if liveState s.stm.setState then .closed else .idle := rfl

theorem calmed_not_committing (s : State) : (calmed s).stm.setState ≠ .committing := by
  rw [calmed_setState_eq]; split <;> simp

@[simp] theorem liveState_calmed (s : State) : liveState (calmed s).stm.setState = liveState s.stm.setState := by
  rw [calmed_setState_eq]; cases liveState s.stm.setState <;> rfl

@[simp] theorem served_calmed (s : State) : served (calmed s) = served s := by
  rw [served, liveState_calmed]; rfl

/-- A change of the set state that leaves it as live as it was is hidden. -/
theorem calmed_setSetState {x : SetState} (h : liveState x = liveState s.stm.setState) :
    calmed (setSetState x s) = calmed s := by simp [calmed, setSetState_eq, h]

theorem tracked_calmed_iff : Tracked (calmed s) ↔ QueueScanLaw s := by
  rw [queueScanLaw_iff]
  have horder : InOrder (calmed s) ↔ InOrder s := by unfold InOrder; rw [served_calmed]; rfl
  refine ⟨fun h => ⟨⟨h.standing.starting, h.standing.held, h.standing.components, h.standing.declared⟩,
    horder.1 h.order⟩, fun ⟨h, ho⟩ => ⟨⟨h.starting, h.held, h.components, h.declared⟩, horder.2 ho, fun hg => ?_⟩⟩
  rw [calmed_setState_eq] at hg
  split at hg <;> simp at hg

/-- An operation that keeps the calmed state tracked keeps the laws. -/
theorem QueueScanLaw.of_calmed (h : QueueScanLaw s) (hu : calmed t = u) (k : Tracked (calmed s) → Keeps (calmed s) u) :
    QueueScanLaw t :=
  tracked_calmed_iff.1 (hu ▸ (k (tracked_calmed_iff.2 h)).tracked)

/-- A set that is neither READY nor COMMITTING has no chunk that must be GOOD. -/
theorem QueueScanLaw.tracked (h : QueueScanLaw s) (hs : s.stm.setState ∉ [SetState.ready, .committing]) : Tracked s :=
  ⟨((queueScanLaw_iff s).1 h).1, ((queueScanLaw_iff s).1 h).2, fun hg => by simp at hs; tauto⟩

theorem QueueScanLaw.after_setSetState (h : QueueScanLaw s) {x : SetState} (hx : liveState x = liveState s.stm.setState) :
    QueueScanLaw (setSetState x s) :=
  h.of_calmed (calmed_setSetState hx) Tracked.keeps_self

theorem QueueScanLaw.same (h : QueueScanLaw s) (f : SameTracker s t) : QueueScanLaw t := by
  have hcalmed : SameTracker (calmed s) (calmed t) :=
    ⟨f.part, f.step, f.rstin, by simp only [calmed_setState_eq, f.setState], f.set, f.compCount, f.components, f.chunks,
      f.queue, f.scan⟩
  exact tracked_calmed_iff.1 (hcalmed.tracked (tracked_calmed_iff.2 h))

theorem QueueScanLaw.of_blocks (h : QueueScanLaw s) (hsup : t.sup = s.sup) (hstm : t.stm = s.stm) (hckt : t.ckt = s.ckt)
    (hscan : t.scan = s.scan) : QueueScanLaw t := h.same (.of_blocks hsup hstm hckt hscan)

/-! ### Operations that look at the set state only for whether it is live -/

@[simp] theorem calmed_updateChunk (r : ChunkRef) (f : Chunk → Chunk) (s : State) :
    calmed (updateChunk r f s) = updateChunk r f (calmed s) := rfl

@[simp] theorem calmed_moveChunk (r : ChunkRef) (st : ChunkState) (s : State) :
    calmed (moveChunk r st s) = moveChunk r st (calmed s) := rfl

@[simp] theorem calmed_dequeue (r : ChunkRef) (s : State) : calmed (dequeue r s) = dequeue r (calmed s) := rfl

@[simp] theorem calmed_enqueue (r : ChunkRef) (s : State) : calmed (enqueue r s) = enqueue r (calmed s) := by
  rw [enqueue_eq, enqueue_eq, served_calmed]; rfl

@[simp] theorem calmed_dropScan (s : State) : calmed (dropScan s) = dropScan (calmed s) := by
  rw [dropScan_eq, dropScan_eq]; rfl

@[simp] theorem calmed_reportLeftGood (s : State) : calmed (reportLeftGood s) = reportLeftGood (calmed s) := by
  simp only [calmed, reportLeftGood_eq, setSetState_eq]
  cases s.stm.setState <;> rfl

theorem calmed_programChunk (c : Chunk) (s : State) : calmed (programChunk c s) = programChunk c (calmed s) := by
  simp only [programChunk_eq]
  cases c.state <;>
    simp only [calmed_reportLeftGood, calmed_enqueue, calmed_moveChunk, calmed_dropScan, calmed_updateChunk]

theorem calmed_eraseChunk (c : Chunk) (s : State) : calmed (eraseChunk c s) = eraseChunk c (calmed s) := by
  unfold eraseChunk
  cases c.state <;> simp only [calmed_reportLeftGood, calmed_moveChunk, calmed_dropScan, calmed_dequeue]

theorem calmed_rescanChunk (c : Chunk) (s : State) : calmed (rescanChunk c s) = rescanChunk c (calmed s) := by
  unfold rescanChunk
  cases c.state <;> simp only [calmed_reportLeftGood, calmed_enqueue, calmed_moveChunk]

theorem calmed_forEachChunk {f : Chunk → State → State} (hf : ∀ c s, calmed (f c s) = f c (calmed s)) (cs : List Chunk)
    (s : State) : calmed (forEachChunk f cs s) = forEachChunk f cs (calmed s) := by
  induction cs generalizing s with
  | nil => rfl
  | cons c cs ih => rw [forEachChunk_cons, forEachChunk_cons, ih, hf]

theorem calmed_noticeProgram (page : Nat) (s : State) : calmed (noticeProgram page s) = noticeProgram page (calmed s) := by
  unfold noticeProgram
  rw [liveState_calmed, apply_ite calmed, calmed_forEachChunk calmed_programChunk]
  rfl

theorem calmed_noticeErase (gs : List Nat) (s : State) : calmed (noticeErase gs s) = noticeErase gs (calmed s) := by
  unfold noticeErase
  rw [liveState_calmed, apply_ite calmed]
  dsimp only
  rw [calmed_forEachChunk calmed_eraseChunk]
  rfl

theorem calmed_rescan (comp : Option Nat) (s : State) : calmed (rescan comp s) = rescan comp (calmed s) := by
  unfold rescan
  rw [liveState_calmed, apply_ite calmed, calmed_forEachChunk calmed_rescanChunk]
  rfl

/-! ### Notices, rescans, the entries into a set state (R75, R82, R83, R90) -/

theorem QueueScanLaw.after_noticeProgram (h : QueueScanLaw s) (page : Nat) : QueueScanLaw (noticeProgram page s) :=
  h.of_calmed (calmed_noticeProgram page s) fun h => h.keeps_noticeProgram fun hc => absurd hc (calmed_not_committing s)

theorem QueueScanLaw.after_noticeErase (h : QueueScanLaw s) (gs : List Nat) : QueueScanLaw (noticeErase gs s) :=
  h.of_calmed (calmed_noticeErase gs s) fun h => h.keeps_noticeErase fun hc => absurd hc (calmed_not_committing s)

theorem QueueScanLaw.after_rescan (h : QueueScanLaw s) (comp : Option Nat) : QueueScanLaw (rescan comp s) :=
  h.of_calmed (calmed_rescan comp s) fun h => h.keeps_rescan (calmed_not_committing s) comp

/-- What an entry into a frozen state leaves does not depend on the set state before it. -/
theorem enterFrozen_calmed (x : SetState) (s : State) : enterFrozen x (calmed s) = enterFrozen x s := rfl

theorem QueueScanLaw.after_enterFrozen (h : QueueScanLaw s) {x : SetState}
    (hx : x ∈ [SetState.abandoned, .rejected, .reverted]) : QueueScanLaw (enterFrozen x s) :=
  enterFrozen_calmed x s ▸ ((tracked_calmed_iff.2 h).keeps_enterFrozen hx).tracked.queueScanLaw

theorem QueueScanLaw.after_reject (h : QueueScanLaw s) (reason : RejectReason) (k : Byte) : QueueScanLaw (reject reason k s) := by
  have hreason : QueueScanLaw (s.setStm { s.stm with reason := some reason }) :=
    h.same ⟨rfl, .inl rfl, id, rfl, rfl, rfl, fun _ => id, rfl, rfl, rfl⟩
  exact (hreason.after_enterFrozen (x := .rejected) (by simp)).of_blocks rfl rfl rfl rfl

theorem QueueScanLaw.after_enterReady (h : QueueScanLaw s) (hlive : liveState s.stm.setState = true) :
    QueueScanLaw (enterReady s) :=
  (h.after_setSetState (x := .ready) hlive.symm).of_blocks rfl rfl rfl rfl

/-- R58, R75: an accepted OPEN and an entry into IDLE discard every chunk record. -/
theorem QueueScanLaw.after_discard (h : QueueScanLaw s) {m : Stm} (hset : ∀ cs, m.set = some cs → cs.compCount ≤ 8)
    (hm : m.setState ≠ .committing) : QueueScanLaw ((discardChunks s).setStm m) := by
  have hcalmed : (discardChunks (calmed s)).setStm m = (discardChunks s).setStm m := by
    rw [discardChunks_eq, discardChunks_eq]; rfl
  exact hcalmed ▸ ((tracked_calmed_iff.2 h).keeps_discarded hset hm).tracked.queueScanLaw

end

end Sys2Proof.Machine
end

section
/-!
PROOF. What the Set Manager, the Boot Supervisor and the Verify Engine keep of the first and the second law (spec 04, 06,
07), from any state that meets them.
-/

namespace Sys2Proof.Machine

section

variable {s t : State}

/-! ### Journal writes and reverts (R117 to R131) -/

theorem calmed_revertFails (step : FailStep) (s : State) : calmed (revertFails step s) = revertFails step (calmed s) := by
  rw [revertFails_eq, revertFails_eq]; rfl

theorem calmed_writeRevert (s : State) : calmed (writeRevert s) = writeRevert (calmed s) := by
  unfold writeRevert
  rw [apply_ite calmed, calmed_revertFails]; rfl

theorem calmed_beginRevert (s : State) : calmed (beginRevert s) = beginRevert (calmed s) := calmed_writeRevert _

theorem calmed_demandRevert (r : RevertReason) (s : State) : calmed (demandRevert r s) = demandRevert r (calmed s) := by
  unfold demandRevert
  dsimp only
  rw [apply_ite calmed, calmed_beginRevert]; rfl

theorem calmed_attemptFails (step : FailStep) (s : State) : calmed (attemptFails step s) = attemptFails step (calmed s) :=
  calmed_beginRevert _

theorem calmed_trialStart (s : State) : calmed (trialStart s) = trialStart (calmed s) := by
  unfold trialStart
  rw [apply_ite calmed, apply_ite calmed, calmed_beginRevert, calmed_attemptFails]; rfl

theorem calmed_attemptLands (entry : JournalEntry) (s : State) :
    calmed (attemptLands entry s) = attemptLands entry (calmed s) := by
  unfold attemptLands
  dsimp only
  rw [apply_ite calmed, apply_ite calmed, calmed_beginRevert]; rfl

theorem calmed_confirmationFails (step : FailStep) (s : State) :
    calmed (confirmationFails step s) = confirmationFails step (calmed s) := by
  unfold confirmationFails
  dsimp only
  rw [apply_ite calmed, calmed_beginRevert]; rfl

theorem calmed_beginConfirmation (s : State) : calmed (beginConfirmation s) = beginConfirmation (calmed s) := by
  unfold beginConfirmation
  dsimp only
  rw [apply_ite calmed, calmed_confirmationFails]; rfl

theorem QueueScanLaw.after_demandRevert (h : QueueScanLaw s) (r : RevertReason) : QueueScanLaw (demandRevert r s) :=
  h.of_calmed (calmed_demandRevert r s) fun h => h.keeps_demandRevert r

theorem QueueScanLaw.after_trialStart (h : QueueScanLaw s) : QueueScanLaw (trialStart s) :=
  h.of_calmed (calmed_trialStart s) Tracked.keeps_trialStart

/-- The Boot Supervisor, the event list and the clock are in neither law. -/
theorem QueueScanLaw.after_boot (h : QueueScanLaw s) (now : Nat) (b : Bsv) (r : Rpu) :
    QueueScanLaw { s with now := now, bsv := b, rpu := r } :=
  h.of_blocks rfl rfl rfl rfl

theorem QueueScanLaw.after_elapseTo (h : QueueScanLaw s) (n : Nat) : QueueScanLaw (elapseTo n s) := h.after_boot _ _ _

theorem QueueScanLaw.after_commitFails (h : QueueScanLaw s) (step : FailStep) : QueueScanLaw (commitFails step s) := by
  have hfailed : QueueScanLaw (failWrite .commit step s) := h.after_boot _ _ _
  unfold commitFails
  dsimp only
  split
  next hc => exact hfailed.after_enterReady (by rw [hc]; rfl)
  next => exact hfailed

theorem QueueScanLaw.after_writeFails (h : QueueScanLaw s) (kind : EntryKind) (step : FailStep) :
    QueueScanLaw (writeFails kind step s) := by
  cases kind
  case commit => exact h.after_commitFails step
  case attempt => exact h.of_calmed (calmed_attemptFails step s) fun h => h.keeps_attemptFails step
  case confirmation => exact h.of_calmed (calmed_confirmationFails step s) fun h => h.keeps_confirmationFails step
  case revert => exact h.of_calmed (calmed_revertFails step s) fun h => h.keeps_revertFails step

theorem QueueScanLaw.after_failsByReply (h : QueueScanLaw s) (kind : EntryKind) (reply : PortReply) :
    QueueScanLaw (failsByReply kind reply s) := by
  unfold failsByReply
  split
  next =>
    split
    next => exact (h.after_elapseTo _).after_writeFails _ _
    next => exact h.after_writeFails _ _
    next => exact h
  next => exact h

theorem QueueScanLaw.after_landsBy (h : QueueScanLaw s) (kind : EntryKind) {f : JournalEntry → State → State}
    (hf : ∀ entry, QueueScanLaw (f entry s)) : QueueScanLaw (landsBy kind f s) := by
  unfold landsBy
  split
  next => exact hf _
  next => exact h

/-- R69, R75, R77: where the set state is `x` it becomes `y`, live as before. -/
theorem QueueScanLaw.after_setSetState_if (h : QueueScanLaw s) {x y : SetState} (hlive : liveState y = liveState x) :
    QueueScanLaw (if s.stm.setState = x then setSetState y s else s) := by
  split
  next hx => exact h.after_setSetState (hx ▸ hlive)
  next => exact h

theorem QueueScanLaw.after_commitLands (h : QueueScanLaw s) (entry : JournalEntry) : QueueScanLaw (commitLands entry s) :=
  ((h.after_boot _ _ _).after_setSetState_if (x := .committing) (y := .trial) rfl).after_boot _ _ _

theorem QueueScanLaw.after_confirmationLands (h : QueueScanLaw s) (entry : JournalEntry) :
    QueueScanLaw (confirmationLands entry s) :=
  (h.after_boot _ _ _).after_setSetState_if (x := .trial) (y := .installed) rfl

/-- In STARTING the start-up goes on to another of its steps. -/
theorem QueueScanLaw.after_startUp (h : QueueScanLaw s) (hp : s.sup.part = .starting) (hpart : t.sup.part = .starting)
    (hstep : t.sup.step ≠ .finished) (hrstin : t.sup.rstin = true → s.sup.rstin = true) (hstm : t.stm = s.stm)
    (hckt : t.ckt = s.ckt) (hscan : t.scan = s.scan) : QueueScanLaw t := by
  refine h.same ⟨hpart.trans hp.symm, .inr ⟨hp, hstep⟩, hrstin, ?_, ?_, ?_, fun k hk => ?_, ?_, ?_, ?_⟩
  case refine_4 => simpa [componentAt, hstm] using hk
  all_goals simp [chunkStates, hstm, hckt, hscan]

theorem QueueScanLaw.after_revertLands (h : QueueScanLaw s) (entry : JournalEntry) : QueueScanLaw (revertLands entry s) := by
  have hset {s : State} (h : QueueScanLaw s) :
      QueueScanLaw (if s.stm.setState = .trial then enterFrozen .reverted s else s) := by
    split
    next => exact h.after_enterFrozen (by simp)
    next => exact h
  have hrelease {s : State} (h : QueueScanLaw s) : QueueScanLaw (if s.sup.part = .starting then
      s.setSup { s.sup with step := .rebuild } else dueRelease .revertLanded s) := by
    split
    next hp => exact h.after_startUp hp hp (by simp) id rfl rfl rfl
    next => exact h.after_boot _ _ _
  exact hrelease (hset (h.after_boot _ _ _))

/-! ### Records (R56 to R73) -/

theorem QueueScanLaw.after_refuse (h : QueueScanLaw s) (kind : RecordKind) (reason : RefuseReason) (r : Record) :
    QueueScanLaw (refuse kind reason r s) := h.after_boot _ _ _

theorem QueueScanLaw.after_acceptOpen (h : QueueScanLaw s) {cs : CurrentSet} (hcs : cs.compCount ≤ 8) (r : Record) :
    QueueScanLaw (acceptOpen cs r s) :=
  h.after_discard (fun _ he => Option.some.inj he ▸ hcs) (by simp)

theorem QueueScanLaw.after_enterIdle (h : QueueScanLaw s) : QueueScanLaw (enterIdle s) :=
  h.after_discard (fun _ he => by simp [Stm.start] at he) (by simp [Stm.start])

theorem QueueScanLaw.after_takeOpen (h : QueueScanLaw s) (r : Record) : QueueScanLaw (takeOpen r s) := by
  unfold takeOpen
  split
  next => exact h.after_refuse _ _ _
  next hv => exact h.after_acceptOpen (compCount_le_of_openVerdict hv) r

theorem QueueScanLaw.after_rebuildOpen (h : QueueScanLaw s) (r : Record) : QueueScanLaw (rebuildOpen r s) := by
  unfold rebuildOpen
  split
  next => exact h.after_refuse _ _ _
  next hv => exact h.after_acceptOpen (compCount_le_of_openRebuildVerdict hv) r

/-- R59: a record that asks the gate does what it does to a set that is RECEIVING, or is refused. -/
theorem QueueScanLaw.of_gate (h : QueueScanLaw s) {kind : RecordKind} {r : Record}
    (hrefused : gate r s = .error .wrongState → t = refuse kind .wrongState r s) (k : Tracked s → Keeps s t) :
    QueueScanLaw t := by
  by_cases hs : s.stm.setState = .receiving
  · exact (k (h.tracked (by simp [hs]))).tracked.queueScanLaw
  · rw [hrefused (gate_of_not_receiving (.inl hs))]; exact h.after_refuse _ _ _

theorem QueueScanLaw.after_takeComponent (h : QueueScanLaw s) (r : Record) : QueueScanLaw (takeComponent r s) :=
  h.of_gate (fun hg => by rw [takeComponent, hg]) fun h => h.keeps_takeComponent r

theorem QueueScanLaw.after_takeCodes (h : QueueScanLaw s) (r : Record) : QueueScanLaw (takeCodes r s) :=
  h.of_gate (fun hg => by rw [takeCodes, hg]) fun h => h.keeps_takeCodes r

theorem QueueScanLaw.after_takeClose (h : QueueScanLaw s) (r : Record) : QueueScanLaw (takeClose r s) :=
  h.of_gate (fun hg => by rw [takeClose, hg]) fun h => h.keeps_takeClose r

/-- R68, R122, R123: COMMITTING, and READY again where the write fails at once. -/
theorem QueueScanLaw.after_takeCommit (h : QueueScanLaw s) (r : Record) : QueueScanLaw (takeCommit r s) := by
  unfold takeCommit
  split
  next => exact h.after_refuse _ _ _
  next cs hv =>
    have hcommitting : QueueScanLaw (setSetState .committing s) :=
      h.after_setSetState (by rw [ready_of_commitVerdict hv]; rfl)
    unfold beginCommit
    split
    next => exact hcommitting.after_commitFails _
    next => exact hcommitting.after_boot _ _ _

theorem QueueScanLaw.after_takeConfirm (h : QueueScanLaw s) (r : Record) : QueueScanLaw (takeConfirm r s) := by
  unfold takeConfirm
  split
  next => exact h.after_refuse _ _ _
  next => exact h.of_calmed (calmed_beginConfirmation s) Tracked.keeps_beginConfirmation

theorem QueueScanLaw.after_abandonSet (h : QueueScanLaw s) (r : Record) : QueueScanLaw (abandonSet r s) := by
  unfold abandonSet
  split
  next => exact h.after_refuse _ _ _
  next =>
    split
    next => exact h.after_refuse _ _ _
    next =>
      split
      next => exact h.after_enterFrozen (by simp)
      next => exact h.after_refuse _ _ _

theorem QueueScanLaw.after_takeAbandon (h : QueueScanLaw s) (r : Record) : QueueScanLaw (takeAbandon r s) := by
  unfold takeAbandon
  split
  next => exact h.after_refuse _ _ _
  next =>
    split
    next =>
      split
      next => exact h.after_refuse _ _ _
      next => exact h.after_demandRevert _
    next => exact h.after_abandonSet r

theorem QueueScanLaw.after_rebuildAbandon (h : QueueScanLaw s) (r : Record) : QueueScanLaw (rebuildAbandon r s) := by
  unfold rebuildAbandon
  split
  next => exact h.after_refuse _ _ _
  next =>
    split
    next => exact h
    next => exact h.after_abandonSet r

theorem QueueScanLaw.after_takeClear (h : QueueScanLaw s) (r : Record) : QueueScanLaw (takeClear r s) := by
  unfold takeClear
  split
  next => exact h.after_refuse _ _ _
  next =>
    dsimp only
    rw [setRestart_if, clearEvents_if]
    exact h.after_boot _ _ _

theorem QueueScanLaw.after_takeRescan (h : QueueScanLaw s) (r : Record) : QueueScanLaw (takeRescan r s) := by
  unfold takeRescan
  split
  next => exact h.after_refuse _ _ _
  next => exact h.after_rescan _

theorem QueueScanLaw.after_takeRecord (h : QueueScanLaw s) (kind : RecordKind) (r : Record) :
    QueueScanLaw (takeRecord kind r s) := by
  cases kind
  case openSet => exact h.after_takeOpen r
  case component => exact h.after_takeComponent r
  case codes => exact h.after_takeCodes r
  case close => exact h.after_takeClose r
  case commit => exact h.after_takeCommit r
  case confirm => exact h.after_takeConfirm r
  case abandon => exact h.after_takeAbandon r
  case clear => exact h.after_takeClear r
  case rescan => exact h.after_takeRescan r

theorem QueueScanLaw.after_rebuildRecord (h : QueueScanLaw s) (kind : RecordKind) (r : Record) :
    QueueScanLaw (rebuildRecord kind r s) := by
  cases kind
  case openSet => exact h.after_rebuildOpen r
  case component => exact h.after_takeComponent r
  case codes => exact h.after_takeCodes r
  case close => exact h.after_takeClose r
  case abandon => exact h.after_rebuildAbandon r
  case commit | confirm | clear | rescan => exact h

/-! ### The outcome of a scan (R74, R86, R87, R108) -/

theorem QueueScanLaw.after_scanningToRest (h : QueueScanLaw s) {r : ChunkRef} (hr : (r, .scanning) ∈ chunkStates s)
    {st : ChunkState} (hd : st ≠ .dirty) (hs : st ≠ .scanning) : QueueScanLaw (moveChunk r st (dropScan s)) :=
  h.of_calmed (by rw [calmed_moveChunk, calmed_dropScan]) fun h => h.keeps_scanningToRest hr hd hs

theorem QueueScanLaw.after_countMismatch (h : QueueScanLaw s) (r : ChunkRef) : QueueScanLaw (countMismatch r s) := by
  have hcounted : QueueScanLaw ((post .chunkBad (detailChunk r) (updateChunk r (fun c =>
      { c with mismatches := min 15 (c.mismatches + 1) }) s)).setStm
        { s.stm with mismatchTotal := min 65535 (s.stm.mismatchTotal + 1) }) :=
    h.same ⟨rfl, .inl rfl, id, rfl, rfl, rfl, fun _ => id,
      chunkStates_updateChunk r (f := fun c => { c with mismatches := min 15 (c.mismatches + 1) }) (fun _ => rfl)
        (fun _ => rfl) s, rfl, rfl⟩
  show QueueScanLaw (applyThreshold _)
  unfold applyThreshold
  split
  next => exact hcounted.after_reject _ _
  next => exact hcounted

theorem QueueScanLaw.after_preparedOutcome (h : QueueScanLaw s) {c : Chunk} (hm : (c.ref, .scanning) ∈ chunkStates s)
    (good : Bool) : QueueScanLaw (preparedOutcome good c (dropScan s)) := by
  have hrest {st : ChunkState} := h.after_scanningToRest hm (st := st)
  cases good
  case true =>
    have hgood := hrest (st := .good) (by simp) (by simp)
    simp only [preparedOutcome, if_true, reportAllGood_eq]
    split
    next =>
      split
      next hclosed => exact hgood.after_enterReady (by rw [hclosed]; rfl)
      next => exact hgood
    next => exact hgood
  case false =>
    have hbad := hrest (st := .bad) (by simp) (by simp)
    simp only [preparedOutcome, Bool.false_eq_true, if_false]
    split
    next => exact hbad.after_countMismatch _
    next => exact hbad

theorem QueueScanLaw.after_healthOutcome (h : QueueScanLaw s) {c : Chunk} (hm : (c.ref, .scanning) ∈ chunkStates s)
    (good : Bool) : QueueScanLaw (healthOutcome good c (dropScan s)) := by
  have hrest {st : ChunkState} := h.after_scanningToRest hm (st := st)
  cases good
  case true => exact hrest (by simp) (by simp)
  case false =>
    have hbad : QueueScanLaw (post .healthBad (detailChunk c.ref) (moveChunk c.ref .bad (dropScan s))) :=
      (hrest (by simp) (by simp)).after_boot _ _ _
    simp only [healthOutcome, Bool.false_eq_true, if_false]
    split
    next => exact hbad.after_demandRevert _
    next => exact hbad

/-- R86, R87: the outcome of the scan of the SCANNING chunk; only a live set has one. -/
theorem QueueScanLaw.after_scanOutcome (h : QueueScanLaw s) {c : Chunk} (hm : (c.ref, .scanning) ∈ chunkStates s)
    (good : Bool) : QueueScanLaw (scanOutcome good c s) := by
  have hlive : liveState s.stm.setState = true := by
    have hserved := h.inOrder.scanServed (by simp [(h.inOrder.scanned c.ref).2 hm])
    exact (Bool.and_eq_true_iff.1 hserved).2
  cases hx : s.stm.setState <;> simp only [hx, liveState, Bool.false_eq_true] at hlive
  case receiving | closed | ready =>
    rw [scanOutcome_of_preparing (by rw [hx]; rfl)]; exact h.after_preparedOutcome hm good
  case trial | installed =>
    rw [scanOutcome_of_health (by simp [hx])]; exact h.after_healthOutcome hm good
  case committing =>
    rw [scanOutcome_of_committing hx]
    exact h.after_scanningToRest hm (by cases good <;> simp) (by cases good <;> simp)

theorem QueueScanLaw.after_scanByte (h : QueueScanLaw s) (b : Byte) {x : ScanContext} (hx : s.scan = some x) :
    QueueScanLaw (scanByte b x s) := by
  unfold scanByte
  split
  next =>
    dsimp only
    split
    next k hfind =>
      have hk : (k.ref, k.state) ∈ chunkStates s := mem_chunkStates_of_mem (List.mem_of_find?_eq_some hfind)
      have href : k.ref = x.ref := by simpa using List.find?_some hfind
      have hstate : k.state = .scanning := (h.inOrder.scan_eq_iff hk).1 (by simp [hx, href])
      exact h.after_scanOutcome (hstate ▸ hk) _
    next => exact h
  next =>
    exact h.same ⟨rfl, .inl rfl, id, rfl, rfl, rfl, fun _ => id, rfl, rfl, by simp [hx, State.setScan, foldByte_ref]⟩

/-- R85, R104: the head of a served queue becomes the SCANNING chunk. -/
theorem QueueScanLaw.after_takeHead (h : QueueScanLaw s) {r : ChunkRef} {rest : List ChunkRef}
    (hq : s.ckt.queue = r :: rest) (hscan : s.scan = none) (c : Component) (f : FlashTxn) :
    QueueScanLaw (takeHead r rest c f s) :=
  h.of_calmed (u := takeHead r rest c f (calmed s)) rfl fun h => h.keeps_takeHead hq hscan c f

end

end Sys2Proof.Machine
end

section
/-!
PROOF. What the log, the rebuild and the start-up keep of the first and the second law (spec 03, 08).
-/

namespace Sys2Proof.Machine

section

variable {s t u : State}

/-! ### Bytes of an append (R39 to R47) -/

/-- The Log Parser, the Traffic Controller and the event list are in neither law. -/
theorem QueueScanLaw.after_log (h : QueueScanLaw s) (trc : Trc) (l : Lgp) (r : Rpu) :
    QueueScanLaw { s with trc := trc, lgp := l, rpu := r } :=
  h.of_blocks rfl rfl rfl rfl

theorem QueueScanLaw.after_handRecord (h : QueueScanLaw s) (kind : Byte) (r : Record) :
    QueueScanLaw (handRecord kind r s) := by
  unfold handRecord
  split
  next => exact h.after_takeRecord _ r
  next => exact h.after_boot _ _ _

theorem QueueScanLaw.after_completeRecord (h : QueueScanLaw s) (start : Nat) (hdr body : List Byte) :
    QueueScanLaw (completeRecord start hdr body s) := by
  unfold completeRecord
  dsimp only
  split
  next => exact (h.after_log _ _ _).after_handRecord _ _
  next => exact h.after_log _ _ _

theorem QueueScanLaw.after_appendByte (h : QueueScanLaw s) (b : Byte) : QueueScanLaw (appendByte b s) := by
  unfold appendByte
  dsimp only
  split
  next =>
    split
    next => exact h.after_log _ _ _
    next =>
      split
      next => exact h.after_log _ _ _
      next =>
        split
        next => exact (h.after_log _ _ _).after_completeRecord _ _ _
        next => exact h.after_log _ _ _
  next =>
    split
    next => exact h.after_log _ _ _
    next => exact (h.after_log _ _ _).after_completeRecord _ _ _

theorem QueueScanLaw.after_dataByte (h : QueueScanLaw s) (b : Byte) (start running : Addr) (d : Disposition) :
    QueueScanLaw (dataByte b start running d s) := by
  cases d
  case forward =>
    have hpassed : QueueScanLaw (passByte b running s) := h.after_log _ _ _
    cases hc : s.trc.txn.cut with
    | none => rw [dataByte_of_no_cut hc]; exact hpassed
    | some cut =>
      simp only [dataByte, hc, takeByte, discardCut_eq]
      split
      next => exact h.after_log _ _ _
      next =>
        split
        next => exact hpassed.after_appendByte b
        next => exact hpassed
  case suppress | translate | answer | fill => exact h.after_log _ _ _

/-! ### The end of a transaction (R14, R49, R50, R82, R83) -/

theorem QueueScanLaw.after_noticeLogErase (h : QueueScanLaw s) (gs : List Nat) : QueueScanLaw (noticeLogErase gs s) := by
  unfold noticeLogErase
  dsimp only
  split
  next => exact (h.after_log _ _ _).after_enterIdle
  next => exact h.after_log _ _ _

theorem QueueScanLaw.after_noticeLogProgram (h : QueueScanLaw s) (page : Nat) :
    QueueScanLaw (noticeLogProgram page s) := by
  unfold noticeLogProgram
  split
  next =>
    split
    next => exact h
    next => exact h.after_log _ _ _
  next => exact h

theorem QueueScanLaw.after_endProgram (h : QueueScanLaw s) (a : Addr) : QueueScanLaw (endProgram a s) :=
  ((h.after_log _ _ _).after_noticeProgram _).after_noticeLogProgram _

theorem QueueScanLaw.after_endErase (h : QueueScanLaw s) (a : Addr) (gs : List Nat) : QueueScanLaw (endErase a gs s) :=
  ((h.after_log _ _ _).after_noticeErase gs).after_noticeLogErase gs

theorem QueueScanLaw.after_endForwarded (h : QueueScanLaw s) (x : Txn) : QueueScanLaw (endForwarded x s) := by
  have hcleared : QueueScanLaw (clearCleanup s) := h.after_log _ _ _
  unfold endForwarded
  split
  next => exact hcleared
  next => exact hcleared
  next =>
    split
    next => exact hcleared.after_endProgram _
    next => exact hcleared
  next => exact hcleared.after_endErase _ _
  next => exact hcleared.after_endErase _ _
  next => exact h

/-! ### The rebuild (R51 to R54, R77) -/

theorem QueueScanLaw.after_handRebuilt (h : QueueScanLaw s) (kind : Byte) (r : Record) :
    QueueScanLaw (handRebuilt kind r s) := by
  unfold handRebuilt
  split
  next => exact h.after_rebuildRecord _ r
  next => exact h.after_boot _ _ _

theorem QueueScanLaw.after_moveCursor (h : QueueScanLaw s) (o : Nat) : QueueScanLaw (moveCursor o s) := by
  rw [moveCursor_eq]; exact h.after_log _ _ _

theorem QueueScanLaw.after_tearRebuilt (h : QueueScanLaw s) (start cells : Nat) :
    QueueScanLaw (tearRebuilt start cells (afterRead s)) :=
  (h.after_log _ _ _).after_moveCursor _

theorem QueueScanLaw.after_rebuildRecordAt (h : QueueScanLaw s) (bytes : List Byte) :
    QueueScanLaw (rebuildRecordAt bytes s) := by
  unfold rebuildRecordAt
  dsimp only
  split
  next => exact h
  next =>
    split
    next => exact h.after_log _ _ _
    next =>
      split
      next => exact h.after_tearRebuilt _ _
      next =>
        split
        next => exact h
        next =>
          split
          next => exact ((h.after_log _ _ _).after_moveCursor _).after_handRebuilt _ _
          next => exact h.after_tearRebuilt _ _

theorem QueueScanLaw.after_readSector (h : QueueScanLaw s) (kinds : List Byte) : QueueScanLaw (readSector kinds s) := by
  rw [readSector_eq]
  split
  next => exact h.after_log _ _ _
  next => exact h

/-- In STARTING, where no queue is served, the set may take any state. -/
theorem QueueScanLaw.after_settling (h : QueueScanLaw s) (hp : s.sup.part = .starting) {m : Stm}
    (hset : ∀ cs, m.set = some cs → cs.compCount ≤ 8) (hcomps : m.comps = s.stm.comps) :
    QueueScanLaw (s.setStm m) := by
  refine (queueScanLaw_iff _).2 ⟨⟨h.starting, h.held, hset, fun p hm => ?_⟩, ?_⟩
  · obtain ⟨c, hc, href, -⟩ := mem_chunkStates_iff.1 hm
    simpa [componentAt, hcomps, href] using h.declared c hc
  · have hserved : served (s.setStm m) = served s :=
      (served_eq_false_of_starting (s := s.setStm m) hp).trans (served_eq_false_of_starting hp).symm
    unfold InOrder
    rw [hserved]; exact h.inOrder

/-- R77: in STARTING the set settles by its rebuild class. -/
theorem QueueScanLaw.after_settleSet (h : QueueScanLaw s) (hp : s.sup.part = .starting) : QueueScanLaw (settleSet s) := by
  cases hs : s.stm.set with
  | none => rw [settleSet_of_none hs]; exact h.after_settling hp (by simp [hs]) rfl
  | some cs =>
    have hcount (x : CurrentSet) (hx : some { cs with rebuildClass := none } = some x) : x.compCount ≤ 8 :=
      Option.some.inj hx ▸ h.components cs hs
    match hc : cs.rebuildClass with
    | none => rw [settleSet_of_unrecognized hs (.inl hc)]; exact h.after_settling hp hcount rfl
    | some .unrecognized => rw [settleSet_of_unrecognized hs (.inr hc)]; exact h.after_settling hp hcount rfl
    | some .installed =>
      rw [settleSet_of_known (x := .installed) hs (by simp [hc])]; exact h.after_settling hp hcount rfl
    | some .trial => rw [settleSet_of_known (x := .trial) hs (by simp [hc])]; exact h.after_settling hp hcount rfl
    | some .reverted =>
      rw [settleSet_of_reverted hs hc]
      exact (h.after_settling (m := settledStm s.stm cs .reverted) hp hcount rfl).after_enterFrozen (by simp)

/-! ### The start-up (R93, R116, R124, R135, R142, R143) -/

theorem QueueScanLaw.starting_of_step (h : QueueScanLaw s) {x : StartStep} (hs : s.sup.step = x) (hx : x ≠ .finished) :
    s.sup.part = .starting := h.starting.2 (hs ▸ hx)

/-- R93, R143: the part leaves STARTING, and the queue is filled where it is served. -/
theorem QueueScanLaw.after_fillQueue (h : QueueScanLaw s) (hp : s.sup.part = .starting) (hstm : t.stm = s.stm)
    (hckt : t.ckt = s.ckt) (hscan : t.scan = s.scan) (hpart : t.sup.part ≠ .starting) (hstep : t.sup.step = .finished)
    (hrstin : t.sup.rstin = false) : QueueScanLaw (fillQueue t) := by
  have hcalmed : calmed (fillQueue t) = fillQueue (calmed t) := by rw [fillQueue_eq, fillQueue_eq, served_calmed]; rfl
  have hstm' : (calmed t).stm = (calmed s).stm := by simp only [calmed, setSetState_eq, hstm]
  exact tracked_calmed_iff.1
    (hcalmed ▸ (tracked_calmed_iff.2 h).tracked_fillQueue hp hstm' hckt hscan hpart hstep hrstin)

theorem QueueScanLaw.after_presenceKnown (h : QueueScanLaw s) (hp : s.sup.part = .starting) (p : Presence) :
    QueueScanLaw (presenceKnown p s) :=
  h.after_startUp hp hp (by simp [presenceKnown, goTo]) id rfl rfl rfl

theorem QueueScanLaw.after_accountTrial (h : QueueScanLaw s) (hp : s.sup.part = .starting) :
    QueueScanLaw (accountTrial s) := by
  unfold accountTrial
  split
  next => exact (h.after_startUp (t := goTo .accounting s) hp hp (by simp [goTo]) id rfl rfl rfl).after_trialStart
  next => exact h.after_startUp hp hp (by simp [goTo]) id rfl rfl rfl

theorem QueueScanLaw.of_next (h : QueueScanLaw u) (hx : (.next u : Host.Outcome State Fault Refusal) = .next t) :
    QueueScanLaw t := Host.Outcome.next.inj hx ▸ h

/-- R141: a start-up begins with no set, no chunk and no scan. -/
theorem queueScanLaw_of_start (hstm : t.stm = Stm.start) (hckt : t.ckt = Ckt.start) (hscan : t.scan = none)
    (hp : t.sup.part = .starting) (hstep : t.sup.step ≠ .finished) : QueueScanLaw t :=
  (tracked_of_start hstm hckt hscan hp hstep).queueScanLaw

theorem QueueScanLaw.of_rstinAsserted (h : QueueScanLaw s) (hx : exec .rstinAsserted s = .next t) : QueueScanLaw t := by
  refine .of_next ?_ hx
  split
  next => exact h
  next => exact queueScanLaw_of_start rfl rfl rfl rfl (by simp [post_eq, startValues])

theorem QueueScanLaw.of_rstinReleased (h : QueueScanLaw s) (hx : exec .rstinReleased s = .next t) : QueueScanLaw t := by
  refine .of_next ?_ hx
  split
  next hr =>
    have hp := h.held hr
    unfold beginSequence
    split
    next => exact h.after_startUp hp hp (by simp [goTo]) (by simp [goTo, setRestart]) rfl rfl rfl
    next => exact h.after_startUp hp hp (by simp [goTo]) (by simp [goTo]) rfl rfl rfl
  next => exact h

theorem QueueScanLaw.of_presenceCheck (h : QueueScanLaw s) {b : Byte} (hx : exec (.presenceCheck b) s = .next t) :
    QueueScanLaw t := by
  refine .of_next ?_ hx
  split
  next => exact h
  next hstep =>
    have hp := h.starting_of_step (of_not_not hstep) (by simp)
    split
    next => exact h.after_presenceKnown hp _
    next =>
      split
      next => exact h.after_presenceKnown hp _
      next => exact h.of_blocks rfl rfl rfl rfl

theorem QueueScanLaw.of_presenceTimeout (h : QueueScanLaw s) (hx : exec .presenceTimeout s = .next t) :
    QueueScanLaw t := by
  refine .of_next ?_ hx
  split
  next =>
    split
    next hstep => exact (h.after_elapseTo _).after_presenceKnown (h.starting_of_step hstep (by simp)) _
    next => exact h
  next => exact h

theorem QueueScanLaw.of_profileLoad (h : QueueScanLaw s) {image : List Byte}
    (hx : exec (.profileLoad image) s = .next t) : QueueScanLaw t := by
  refine .of_next ?_ hx
  split
  next => exact h
  next hstep =>
    have hp := h.starting_of_step (of_not_not hstep) (by simp)
    have hloaded (v : ProfileVerdict) (absent : Bool) {x : StartStep} (hx : x ≠ .finished) (r : Rpu) :
        QueueScanLaw { goTo x (startStatusCheck (applyVerdict v absent s)) with rpu := r } := by
      obtain ⟨-, hstm, hckt, hscan, hsup⟩ := applyVerdict_frame v absent s
      exact h.after_startUp hp ((congrArg Sup.part hsup).trans hp) hx (fun hr => (congrArg Sup.rstin hsup) ▸ hr) hstm
        hckt hscan
    split
    next => exact hloaded _ false (x := .journalRead) (by simp) _
    next => exact hloaded _ true (x := .rebuild) (by simp) _

theorem QueueScanLaw.of_journalRead (h : QueueScanLaw s) {image : List Byte}
    (hx : exec (.journalRead image) s = .next t) : QueueScanLaw t := by
  refine .of_next ?_ hx
  split
  next hstep =>
    have hp := h.starting_of_step hstep (by simp)
    unfold applyJournal
    split
    next => exact (h.after_boot _ _ _).after_accountTrial hp
    next => exact (h.after_boot _ _ _).after_accountTrial hp
  next => exact h

theorem QueueScanLaw.of_rebuildReadDone (h : QueueScanLaw s) {bytes : List Byte}
    (hx : exec (.rebuildReadDone bytes) s = .next t) : QueueScanLaw t := by
  refine .of_next ?_ hx
  split
  next =>
    split
    next => exact h.after_readSector _
    next => exact h.after_rebuildRecordAt _
  next => exact h

theorem settleSet_sup (s : State) : (settleSet s).sup = s.sup := by
  cases hs : s.stm.set with
  | none => rw [settleSet_of_none hs]; rfl
  | some cs =>
    match hc : cs.rebuildClass with
    | none => rw [settleSet_of_unrecognized hs (.inl hc)]; rfl
    | some .unrecognized => rw [settleSet_of_unrecognized hs (.inr hc)]; rfl
    | some .installed => rw [settleSet_of_known (x := .installed) hs (by simp [hc])]; rfl
    | some .trial => rw [settleSet_of_known (x := .trial) hs (by simp [hc])]; rfl
    | some .reverted => rw [settleSet_of_reverted hs hc, purge_eq]; rfl

theorem QueueScanLaw.of_rebuildComplete (h : QueueScanLaw s) {kinds : List Byte}
    (hx : exec (.rebuildComplete kinds) s = .next t) : QueueScanLaw t := by
  refine .of_next ?_ hx
  split
  next hmay =>
    simp only [Bool.and_eq_true] at hmay
    obtain ⟨⟨⟨hread, -⟩, -⟩, -⟩ := hmay
    have hp := (tracked_calmed_iff.2 h).starting_of_rebuildMayRead hread
    have hsettled {u : State} (h : QueueScanLaw u) (hp : u.sup.part = .starting) :
        QueueScanLaw (goTo .release (settleSet u)) := by
      have hp' : (settleSet u).sup.part = .starting := by rw [settleSet_sup]; exact hp
      exact (h.after_settleSet hp).after_startUp hp' hp' (by simp [goTo]) id rfl rfl rfl
    exact hsettled (h.after_log _ _ _) hp
  next => exact h

theorem QueueScanLaw.of_releaseStep (h : QueueScanLaw s) (hx : exec .releaseStep s = .next t) : QueueScanLaw t := by
  by_cases hgo : s.sup.step ≠ .release ∨ s.sup.rstin = true
  · exact h.of_next ((congrArg _ (if_pos hgo).symm).trans hx)
  · obtain ⟨hstep, hrstin⟩ := not_or.1 hgo
    have hp := h.starting_of_step (of_not_not hstep) (by simp)
    rw [exec_releaseStep_of_release (of_not_not hstep) (by simpa using hrstin) rfl rfl] at hx
    refine .of_next (h.after_fillQueue (t := released _ (elapse _ s)) hp rfl rfl rfl ?_ rfl ?_) hx
    case refine_2 => exact Bool.eq_false_iff.2 hrstin
    simp only [released]
    split <;> simp

end

end Sys2Proof.Machine
end

section
/-!
PROOF. The first and the second law at every command and every step (spec 05).
-/

namespace Sys2Proof.Machine

section

variable {s t u : State}

/-! ### Upstream transactions (spec 01, 02) -/

/-- What a decision point does, or nothing where none stands. -/
theorem QueueScanLaw.after_deciding (h : QueueScanLaw s) (c : CmdClass) (code : Byte) (hu : QueueScanLaw u) :
    QueueScanLaw (if deciding s c code then u else s) := by
  split
  next => exact hu
  next => exact h

theorem QueueScanLaw.after_forwardPlain (h : QueueScanLaw s) (c : CmdClass) (code : Byte) :
    QueueScanLaw (forwardPlain c code s) := h.after_deciding c code (h.after_log _ _ _)

theorem QueueScanLaw.after_decideRead (h : QueueScanLaw s) (code : Byte) (a : Addr) :
    QueueScanLaw (decideRead code a s) := by
  unfold decideRead
  rw [postFilled_eq]
  dsimp only
  split
  all_goals exact h.after_log _ _ _

theorem QueueScanLaw.after_decideErase (h : QueueScanLaw s) (c : CmdClass) (code : Byte) (a : Addr) (gs : List Nat)
    (oor : Option Addr) : QueueScanLaw (decideErase c code a gs oor s) := by
  unfold decideErase
  split
  next => exact h.after_log _ _ _
  next => rw [postOutOfRange_eq]; exact h.after_log _ _ _

theorem QueueScanLaw.after_abandonOnFull (h : QueueScanLaw s) : QueueScanLaw (abandonOnFull s) := by
  unfold abandonOnFull
  split
  next => exact h.after_enterFrozen (by simp)
  next => exact h

theorem QueueScanLaw.after_decideProgram (h : QueueScanLaw s) (code : Byte) (a : Addr) :
    QueueScanLaw (decideProgram code a s) := by
  by_cases hpermits : permits s (granuleOf a) (programRuling s a).isNone = true
  · rw [decideProgram_of_permits hpermits]; exact h.after_log _ _ _
  · obtain ⟨r, hdecide⟩ := decideProgram_of_not_permits hpermits code
    have hsuppressed : QueueScanLaw (suppressWrite .program (some a) { s with rpu := r }) := h.after_log _ _ _
    rw [hdecide]
    split
    next => exact hsuppressed.after_abandonOnFull
    next => exact hsuppressed

/-- R33, R34: the judgement at a crossing leaves the read as it is or turns it to fill. -/
theorem QueueScanLaw.after_turnToFill (h : QueueScanLaw s) (a : Addr) : QueueScanLaw (turnToFill a s) := by
  rw [turnToFill_eq]; exact h.after_log _ _ _

theorem QueueScanLaw.after_continueRun (h : QueueScanLaw s) : QueueScanLaw (continueRun s) := by
  unfold continueRun
  split
  next =>
    split
    next => exact h
    next => exact h.after_turnToFill _
  next => exact h

theorem QueueScanLaw.after_leaveWindow (h : QueueScanLaw s) : QueueScanLaw (leaveWindow s) := by
  unfold leaveWindow
  split
  next => exact h.after_turnToFill _
  next => exact h

theorem QueueScanLaw.after_sendToCrossing (h : QueueScanLaw s) (within : Option Nat) (a : Addr) {judge : State → State}
    (hj : ∀ u, QueueScanLaw u → QueueScanLaw (judge u)) : QueueScanLaw (sendToCrossing within a judge s) := by
  have hsent (n : Nat) : QueueScanLaw (sendBytes n s) := h.after_log _ _ _
  unfold sendToCrossing
  split
  next => exact hj _ (hsent _)
  next =>
    split
    next => exact hsent _
    next => exact h

theorem QueueScanLaw.of_readGranuleCrossing (h : QueueScanLaw s) {within : Option Nat}
    (hx : exec (.readGranuleCrossing within) s = .next t) : QueueScanLaw t := by
  refine .of_next ?_ hx
  split
  next =>
    split
    next => exact h
    next =>
      split
      next => exact h.after_sendToCrossing _ _ fun _ h => h.after_continueRun
      next =>
        split
        next => exact h.after_sendToCrossing _ _ fun _ h => h
        next => exact h
  next => exact h

theorem QueueScanLaw.of_reportReadLeavesWindow (h : QueueScanLaw s) {within : Option Nat}
    (hx : exec (.reportReadLeavesWindow within) s = .next t) : QueueScanLaw t := by
  refine .of_next ?_ hx
  split
  next =>
    split
    next => exact h.after_sendToCrossing _ _ fun _ h => h.after_leaveWindow
    next => exact h
  next => exact h

/-- R106: the scan context is kept at word granularity. -/
theorem QueueScanLaw.of_ucsAsserted (h : QueueScanLaw s) (hx : exec .ucsAsserted s = .next t) : QueueScanLaw t := by
  refine .of_next ?_ hx
  split
  next => exact h
  next =>
    split
    next =>
      refine h.same ⟨rfl, .inl rfl, id, rfl, rfl, rfl, fun _ => id, rfl, rfl, ?_⟩
      exact Option.map_map ..
    next => exact h.after_log _ _ _

theorem QueueScanLaw.of_programDataByte (h : QueueScanLaw s) {b : Byte} (hx : exec (.programDataByte b) s = .next t) :
    QueueScanLaw t := by
  refine .of_next ?_ hx
  split
  next => exact h
  next =>
    split
    next => exact h.after_log _ _ _
    next =>
      split
      next => exact h.after_dataByte _ _ _ _
      next => exact h

theorem QueueScanLaw.of_ucsReleased (h : QueueScanLaw s) (hx : exec .ucsReleased s = .next t) : QueueScanLaw t := by
  have hclosed : QueueScanLaw (closeTxn s) := h.after_log _ _ _
  refine .of_next ?_ hx
  split
  next => exact h
  next =>
    split
    next => exact h.after_log _ _ _
    next =>
      split
      next => exact hclosed.after_endForwarded _
      next => exact hclosed

/-! ### The flash port, the scan and the journal (spec 01, 06, 07) -/

/-- The commands of the port and the clock that touch no block of the laws on any branch. -/
theorem QueueScanLaw.of_aside (h : QueueScanLaw s) {i : Instr}
    (hi : i ∈ [.writeDisableCleanup, .cleanupComplete, .statusPoll, .busyLimitExpiry, .scanResume])
    (hx : exec i s = .next t) : QueueScanLaw t := by
  simp only [List.mem_cons, List.not_mem_nil, or_false] at hi
  obtain rfl | rfl | rfl | rfl | rfl := hi
  all_goals
    refine .of_next ?_ hx
    repeat' split
    all_goals exact h.of_blocks rfl rfl rfl rfl

theorem QueueScanLaw.of_statusByte (h : QueueScanLaw s) {b : Byte} (hx : exec (.statusByte b) s = .next t) :
    QueueScanLaw t := by
  refine .of_next ?_ hx
  rw [trackBusy_eq, trackBusy_eq]
  split
  next => exact h.after_log _ _ _
  next =>
    split
    next => exact h.after_log _ _ _
    next => exact h

theorem QueueScanLaw.of_scanStart (h : QueueScanLaw s) (hx : exec .scanStart s = .next t) : QueueScanLaw t := by
  refine .of_next ?_ hx
  split
  next hq =>
    split
    next =>
      split
      next hmay => exact h.after_takeHead hq (Option.isNone_iff_eq_none.1 (Bool.and_eq_true_iff.1 hmay).1) _ _
      next => exact h
    next => exact h
  next => exact h

theorem QueueScanLaw.of_scanWord (h : QueueScanLaw s) {b : Byte} (hx : exec (.scanWord b) s = .next t) :
    QueueScanLaw t := by
  refine .of_next ?_ hx
  split
  next hc =>
    split
    next => exact h.after_scanByte b hc
    next => exact h
  next => exact h

theorem QueueScanLaw.of_scanComplete (h : QueueScanLaw s) {b : Byte} (hx : exec (.scanComplete b) s = .next t) :
    QueueScanLaw t := by
  refine .of_next ?_ hx
  split
  next hc =>
    split
    next => exact h.after_scanByte b hc
    next => exact h
  next => exact h

theorem QueueScanLaw.of_journalPollTimeout (h : QueueScanLaw s) (hx : exec .journalPollTimeout s = .next t) :
    QueueScanLaw t := by
  refine .of_next ?_ hx
  split
  next =>
    split
    next => exact h
    next => exact (h.after_elapseTo _).after_writeFails _ _
  next => exact h

theorem QueueScanLaw.of_revertRetry (h : QueueScanLaw s) (hx : exec .revertRetry s = .next t) : QueueScanLaw t := by
  refine .of_next ?_ hx
  split
  next => exact (h.after_elapseTo _).of_calmed (calmed_writeRevert _) Tracked.keeps_writeRevert
  next => exact h

theorem QueueScanLaw.of_mrstRelease (h : QueueScanLaw s) (hx : exec .mrstRelease s = .next t) : QueueScanLaw t := by
  refine .of_next ?_ hx
  split
  next =>
    dsimp only
    split
    next => exact h.after_boot _ _ _
    next => exact h.after_boot _ _ _
  next => exact h

theorem QueueScanLaw.of_confirmTimerExpiry (h : QueueScanLaw s) (hx : exec .confirmTimerExpiry s = .next t) :
    QueueScanLaw t := by
  refine .of_next ?_ hx
  split
  next => exact (h.after_boot _ _ _).after_trialStart
  next => exact h

/-! ### Every command, every step -/

/-- R47: what a record command hands to the Set Manager. -/
theorem QueueScanLaw.after_handOff (h : QueueScanLaw s) {f : State → State} (hf : QueueScanLaw (f s)) :
    QueueScanLaw (handOff f s) := by
  unfold handOff
  split
  next => exact hf
  next => exact h

theorem QueueScanLaw.of_unknownKind (h : QueueScanLaw s) {kind : Byte} {r : Record}
    (hx : exec (.unknownKind kind r) s = .next t) : QueueScanLaw t := by
  refine .of_next ?_ hx
  split
  next => exact h.after_handOff (h.after_boot _ _ _)
  next => exact h

theorem QueueScanLaw.of_exec (h : QueueScanLaw s) (i : Instr) (hx : exec i s = .next t) : QueueScanLaw t := by
  cases i
  case ucsAsserted => exact h.of_ucsAsserted hx
  case read code a =>
    cases a
    case none => exact (h.after_deciding _ _ (h.after_log _ _ _)).of_next hx
    case some a => exact (h.after_deciding _ _ (h.after_decideRead code a)).of_next hx
  case readGranuleCrossing => exact h.of_readGranuleCrossing hx
  case reportReadLeavesWindow => exact h.of_reportReadLeavesWindow hx
  case statusRead | writeEnable | writeDisable | pass => exact (h.after_forwardPlain _ _).of_next hx
  case program code a =>
    cases a
    case none => exact (h.after_deciding _ _ (h.after_log _ _ _)).of_next hx
    case some a => exact (h.after_deciding _ _ (h.after_decideProgram code a)).of_next hx
  case erase4k code a | erase64k code a =>
    cases a
    case none => exact (h.after_deciding _ _ (h.after_log _ _ _)).of_next hx
    case some a => exact (h.after_deciding _ _ (h.after_decideErase _ code a _ _)).of_next hx
  case eraseAll | block => exact (h.after_deciding _ _ (h.after_log _ _ _)).of_next hx
  case programDataByte => exact h.of_programDataByte hx
  case unknownKind => exact h.of_unknownKind hx
  case openRecord r => exact (h.after_handOff (h.after_takeOpen r)).of_next hx
  case componentRecord r => exact (h.after_handOff (h.after_takeComponent r)).of_next hx
  case codesRecord r => exact (h.after_handOff (h.after_takeCodes r)).of_next hx
  case closeRecord r => exact (h.after_handOff (h.after_takeClose r)).of_next hx
  case commitRecord r => exact (h.after_handOff (h.after_takeCommit r)).of_next hx
  case confirmRecord r => exact (h.after_handOff (h.after_takeConfirm r)).of_next hx
  case abandonRecord r => exact (h.after_handOff (h.after_takeAbandon r)).of_next hx
  case clearRecord r => exact (h.after_handOff (h.after_takeClear r)).of_next hx
  case rescanRecord r => exact (h.after_handOff (h.after_takeRescan r)).of_next hx
  case ucsReleased => exact h.of_ucsReleased hx
  case writeDisableCleanup | cleanupComplete | statusPoll | busyLimitExpiry | scanResume =>
    exact h.of_aside (by simp) hx
  case statusByte => exact h.of_statusByte hx
  case scanStart => exact h.of_scanStart hx
  case scanWord => exact h.of_scanWord hx
  case scanComplete => exact h.of_scanComplete hx
  case journalPollTimeout => exact h.of_journalPollTimeout hx
  case commitEntryLands => exact (h.after_landsBy _ h.after_commitLands).of_next hx
  case attemptEntryLands =>
    exact (h.after_landsBy _ fun entry => h.of_calmed (calmed_attemptLands entry s) fun h =>
      h.keeps_attemptLands entry).of_next hx
  case confirmationEntryLands => exact (h.after_landsBy _ h.after_confirmationLands).of_next hx
  case revertEntryLands => exact (h.after_landsBy _ h.after_revertLands).of_next hx
  case commitEntryFails | attemptEntryFails | confirmationEntryFails | revertEntryFails =>
    exact (h.after_failsByReply _ _).of_next hx
  case revertRetry => exact h.of_revertRetry hx
  case mrstRelease => exact h.of_mrstRelease hx
  case confirmTimerExpiry => exact h.of_confirmTimerExpiry hx
  case powerOn => exact (kept_powerOn hx).law.tracker
  case rstinAsserted => exact h.of_rstinAsserted hx
  case rstinReleased => exact h.of_rstinReleased hx
  case presenceCheck => exact h.of_presenceCheck hx
  case presenceTimeout => exact h.of_presenceTimeout hx
  case profileLoad => exact h.of_profileLoad hx
  case journalRead => exact h.of_journalRead hx
  case rebuildReadDone => exact h.of_rebuildReadDone hx
  case rebuildComplete => exact h.of_rebuildComplete hx
  case releaseStep => exact h.of_releaseStep hx

end

/-- Settles O58: each command keeps the laws (`QueueScanLaw.of_exec`), and time touches nothing they speak of. -/
theorem queueScanLawKept : Obligations.QueueScanLawKept := by
  intro s t h hx
  unfold step at hx
  split at hx
  next i rest _ =>
    have hpopped : QueueScanLaw (s.setPending rest) := h.of_blocks rfl rfl rfl rfl
    exact hpopped.of_exec i hx
  next => exact (h.after_boot _ _ _).of_next hx

end Sys2Proof.Machine
end

section
/-!
PROOF. The two-lane sum (spec 06 section 6.1): its range, its carrying, the words of a byte sequence, the result forms.
-/

namespace Sys2Proof.Machine

/-! ### The lane step (R94) -/

theorem laneStep_inRange (l : Lanes) (w : Nat) : (laneStep l w).inRange :=
  ⟨Nat.mod_lt _ (by decide), Nat.mod_lt _ (by decide)⟩

theorem laneFold_inRange {l : Lanes} (h : l.inRange) (ws : List Nat) : (laneFold l ws).inRange := by
  induction ws generalizing l with
  | nil => exact h
  | cons w ws ih => exact ih (laneStep_inRange l w)

theorem laneFold_append (l : Lanes) (ws vs : List Nat) : laneFold l (ws ++ vs) = laneFold (laneFold l ws) vs :=
  List.foldl_append

/-! ### The result forms (R95) -/

theorem code32_toNat {l : Lanes} (h : l.inRange) : (code32 l).toNat = l.b * 65536 + l.a := by
  obtain ⟨ha, hb⟩ := h
  rw [code32, BitVec.toNat_ofNat, Nat.mod_eq_of_lt (by omega)]

theorem check16_toNat (l : Lanes) : (check16 l).toNat = (l.a + l.b) % 65536 := BitVec.toNat_ofNat _ _

/-- Settles O4: a step leaves remainders, a list of words is folded step by step, and a code's halves are its lanes. -/
theorem laneStepRule : Obligations.LaneStepRule := by
  refine ⟨fun l w => ⟨rfl, rfl, laneStep_inRange l w⟩, fun l ws h => laneFold_inRange h ws, laneFold_append,
    fun l ws h => ?_⟩
  rw [code32_toNat (laneFold_inRange h ws)]
  obtain ⟨ha, hb⟩ := laneFold_inRange h ws
  omega

/-! ### Words from bytes (R95) -/

theorem length_wordsOf (bs : List Byte) : (wordsOf bs).length = (bs.length + 1) / 2 := by
  induction bs using wordsOf.induct with
  | case1 => rfl
  | case2 x => simp [wordsOf]
  | case3 x y rest ih => simp only [wordsOf, List.length_cons, ih]; omega

/-- A part of even length leaves no byte to pair with the next part's first. -/
theorem wordsOf_append {bs : List Byte} (h : bs.length % 2 = 0) (cs : List Byte) :
    wordsOf (bs ++ cs) = wordsOf bs ++ wordsOf cs := by
  induction bs using wordsOf.induct with
  | case1 => rfl
  | case2 x => simp at h
  | case3 x y rest ih =>
    have heven : rest.length % 2 = 0 := by simp only [List.length_cons] at h; omega
    simp only [List.cons_append, wordsOf, ih heven]

/-- Settles O5: the equations of `wordsOf`, the count of words and the joining of parts by its recursion. -/
theorem bytesPairIntoWords : Obligations.BytesPairIntoWords :=
  ⟨fun _ _ _ => rfl, fun _ => rfl, length_wordsOf, fun _ cs h => wordsOf_append h cs,
    fun l h => ⟨code32_toNat h, check16_toNat l⟩⟩

/-! ### The lanes of a scan (R96, R105) -/

theorem chunkSeed_inRange (ident : Word16) {chunk : Nat} (h : chunk < 1024) : (chunkSeed ident chunk).inRange :=
  ⟨show 1 + chunk < 65521 by omega, Nat.mod_lt _ (by decide)⟩

theorem foldByte_inRange {x : ScanContext} (h : x.lanes.inRange) (b : Byte) (last : Bool) :
    (foldByte x b last).lanes.inRange := by
  unfold foldByte
  split
  next => exact laneStep_inRange _ _
  next =>
    split
    next => exact laneStep_inRange _ _
    next => exact h

end Sys2Proof.Machine
end

section
/-!
PROOF. The seventh law by what it speaks of (spec 04, 05, 06): an operation that leaves the digest, the scan context and
the Chunk Tracker alone keeps it; every other one is followed here to where its lanes and its chunk indexes come from.
-/

namespace Sys2Proof.Machine

section

variable {s t : State}

/-! ### What the law speaks of -/

theorem LanesLaw.of_blocks (h : LanesLaw s) (hdigest : t.stm.digest = s.stm.digest) (hckt : t.ckt = s.ckt)
    (hscan : t.scan = s.scan) : LanesLaw t :=
  ⟨hdigest ▸ h.digest, hscan ▸ h.scan, hckt ▸ h.chunks, hckt ▸ h.queued⟩

/-- The law speaks of the digest, the scan context and the Chunk Tracker alone. -/
theorem LanesLaw.aside (h : LanesLaw s) {pending now freeDraws trc settings lgp bsv ppc sup rpu} : LanesLaw { s with
    pending := pending, now := now, freeDraws := freeDraws, trc := trc, settings := settings, lgp := lgp, bsv := bsv
    ppc := ppc, sup := sup, rpu := rpu } :=
  ⟨h.digest, h.scan, h.chunks, h.queued⟩

/-- A change of the Set Manager that leaves the digest alone. -/
theorem LanesLaw.after_setStm (h : LanesLaw s) {m : Stm} (hdigest : m.digest = s.stm.digest) : LanesLaw (s.setStm m) :=
  h.of_blocks hdigest rfl rfl

theorem LanesLaw.after_setSetState (h : LanesLaw s) (x : SetState) : LanesLaw (setSetState x s) := h.after_setStm rfl

/-- With no scan and no chunk the law asks only for the digest's lanes. -/
theorem lanesLaw_of_empty (hdigest : ∀ l, t.stm.digest = some l → l.inRange) (hscan : t.scan = none)
    (hckt : t.ckt = ⟨[], []⟩) : LanesLaw t where
  digest := hdigest
  scan c hc := by simp [hscan] at hc
  chunks c hc := by simp [hckt] at hc
  queued r hr := by simp [hckt] at hr

theorem lanesLaw_of_start (hstm : t.stm = Stm.start) (hckt : t.ckt = Ckt.start) (hscan : t.scan = none) : LanesLaw t :=
  lanesLaw_of_empty (fun l hl => by simp [hstm, Stm.start] at hl) hscan hckt

theorem LanesLaw.after_setScan (h : LanesLaw s) {x : Option ScanContext} (hx : ∀ c, x = some c → c.lanes.inRange) :
    LanesLaw (s.setScan x) :=
  ⟨h.digest, hx, h.chunks, h.queued⟩

theorem LanesLaw.after_setCkt (h : LanesLaw s) {x : Ckt} (hchunks : ∀ c ∈ x.chunks, c.ref.chunk < 1024)
    (hqueue : ∀ r ∈ x.queue, r.chunk < 1024) : LanesLaw (s.setCkt x) :=
  ⟨h.digest, h.scan, hchunks, hqueue⟩

/-! ### The Chunk Tracker (R82 to R84, R90 to R93) -/

theorem LanesLaw.after_dropScan (h : LanesLaw s) : LanesLaw (dropScan s) := by
  rw [dropScan_eq]
  exact ⟨h.digest, fun c hc => by simp at hc, h.chunks, h.queued⟩

/-- A change of chunk records that leaves their references alone. -/
theorem LanesLaw.chunks_map (h : LanesLaw s) {f : Chunk → Chunk} (hf : ∀ c, (f c).ref = c.ref) :
    ∀ c ∈ s.ckt.chunks.map f, c.ref.chunk < 1024 := by
  intro c hc
  obtain ⟨d, hd, rfl⟩ := List.mem_map.1 hc
  rw [hf]; exact h.chunks d hd

theorem LanesLaw.after_updateChunk (h : LanesLaw s) (r : ChunkRef) {f : Chunk → Chunk} (hf : ∀ c, (f c).ref = c.ref) :
    LanesLaw (updateChunk r f s) :=
  h.after_setCkt (h.chunks_map fun c => by split <;> simp [hf]) h.queued

theorem LanesLaw.after_moveChunk (h : LanesLaw s) (r : ChunkRef) (x : ChunkState) : LanesLaw (moveChunk r x s) :=
  h.after_updateChunk r fun _ => rfl

theorem LanesLaw.after_enqueue (h : LanesLaw s) {r : ChunkRef} (hr : r.chunk < 1024) : LanesLaw (enqueue r s) := by
  unfold enqueue
  split
  next =>
    refine h.after_setCkt h.chunks fun q hq => ?_
    obtain hq | hq := List.mem_append.1 hq
    · exact h.queued q hq
    · rw [List.mem_singleton.1 hq]; exact hr
  next => exact h

theorem LanesLaw.after_dequeue (h : LanesLaw s) (r : ChunkRef) : LanesLaw (dequeue r s) :=
  h.after_setCkt h.chunks fun q hq => h.queued q (List.mem_filter.1 hq).1

theorem LanesLaw.after_reportLeftGood (h : LanesLaw s) : LanesLaw (reportLeftGood s) := by
  rw [reportLeftGood_eq]; exact h.after_setStm rfl

/-- R82, R84, R90: a chunk becomes DIRTY and joins the queue. -/
theorem LanesLaw.after_toDirty (h : LanesLaw s) {r : ChunkRef} (hr : r.chunk < 1024) :
    LanesLaw (enqueue r (moveChunk r .dirty s)) :=
  (h.after_moveChunk r .dirty).after_enqueue hr

variable {c : Chunk}

theorem LanesLaw.after_programChunk (h : LanesLaw s) (hc : c.ref.chunk < 1024) : LanesLaw (programChunk c s) := by
  have hwritten : LanesLaw (updateChunk c.ref (fun c => { c with written := true }) s) :=
    h.after_updateChunk _ fun _ => rfl
  rw [programChunk_eq]
  cases c.state
  case uncoded | dirty => exact hwritten
  case erased | bad => exact hwritten.after_toDirty hc
  case scanning => exact hwritten.after_dropScan.after_toDirty hc
  case good => exact (hwritten.after_toDirty hc).after_reportLeftGood

theorem LanesLaw.after_eraseChunk (h : LanesLaw s) : LanesLaw (eraseChunk c s) := by
  unfold eraseChunk
  cases c.state
  case uncoded | erased => exact h
  case dirty => exact (h.after_dequeue _).after_moveChunk _ _
  case scanning => exact h.after_dropScan.after_moveChunk _ _
  case good => exact (h.after_moveChunk _ _).after_reportLeftGood
  case bad => exact h.after_moveChunk _ _

theorem LanesLaw.after_rescanChunk (h : LanesLaw s) (hc : c.ref.chunk < 1024) : LanesLaw (rescanChunk c s) := by
  unfold rescanChunk
  cases c.state
  case uncoded | dirty | scanning => exact h
  case erased | bad => exact h.after_toDirty hc
  case good => exact (h.after_toDirty hc).after_reportLeftGood

theorem LanesLaw.after_codeChunk (h : LanesLaw s) (hc : c.ref.chunk < 1024) (code : Word32) :
    LanesLaw (codeChunk c code s) := by
  have hcoded : LanesLaw (updateChunk c.ref (fun c => { c with expected := some code }) s) :=
    h.after_updateChunk _ fun _ => rfl
  unfold codeChunk
  cases c.state
  case uncoded => exact hcoded.after_toDirty hc
  case erased | dirty | scanning | good | bad => exact hcoded

/-- An operation on chunks that a notice or a request picks out of the state's own. -/
theorem LanesLaw.after_forEach_filter (h : LanesLaw s) {f : Chunk → State → State}
    (hf : ∀ {c : Chunk} {t : State}, LanesLaw t → c.ref.chunk < 1024 → LanesLaw (f c t)) (pick : Chunk → Bool) :
    LanesLaw (forEachChunk f (s.ckt.chunks.filter pick) s) :=
  forEachChunk_keeps (fun c hc _ ht => hf ht (h.chunks c (List.mem_filter.1 hc).1)) h

theorem LanesLaw.after_noticeProgram (h : LanesLaw s) (page : Nat) : LanesLaw (noticeProgram page s) := by
  unfold noticeProgram
  split
  next => exact h.after_forEach_filter LanesLaw.after_programChunk _
  next => exact h

theorem LanesLaw.after_noticeErase (h : LanesLaw s) (gs : List Nat) : LanesLaw (noticeErase gs s) := by
  unfold noticeErase
  split
  next => exact h.after_forEach_filter (fun h _ => h.after_eraseChunk) _
  next => exact h

theorem LanesLaw.after_rescan (h : LanesLaw s) (comp : Option Nat) : LanesLaw (rescan comp s) := by
  unfold rescan
  split
  next => exact h.after_forEach_filter LanesLaw.after_rescanChunk _
  next => exact h

/-- R61, R62: the new chunks of a component are numbered below its chunk count. -/
theorem LanesLaw.after_createChunks (h : LanesLaw s) (k : Nat) {n : Nat} (hn : n ≤ 1024) :
    LanesLaw (createChunks k n s) := by
  refine h.after_setCkt (fun c hc => ?_) h.queued
  simp only [List.mem_append, List.mem_filter, newChunks, List.mem_map, List.mem_range] at hc
  obtain (⟨hc, -⟩ | ⟨i, hi, rfl⟩) | ⟨hc, -⟩ := hc
  · exact h.chunks c hc
  · exact hi.trans_le hn
  · exact h.chunks c hc

/-- R93: the queue is filled from the chunk records. -/
theorem LanesLaw.after_fillQueue (h : LanesLaw s) : LanesLaw (fillQueue s) := by
  unfold fillQueue
  split
  next =>
    refine h.after_setCkt h.chunks fun r hr => ?_
    obtain ⟨c, hc, rfl⟩ := List.mem_map.1 hr
    exact h.chunks c (List.mem_filter.1 hc).1
  next => exact h

/-! ### Entries into a set state (R58, R60, R75) -/

theorem LanesLaw.after_enterFrozen (h : LanesLaw s) (x : SetState) : LanesLaw (enterFrozen x s) := by
  rw [enterFrozen_eq]
  exact ⟨h.digest, fun c hc => by simp at hc, h.chunks_map fun c => by split <;> rfl, by simp⟩

theorem LanesLaw.after_reject (h : LanesLaw s) (reason : RejectReason) (k : Byte) : LanesLaw (reject reason k s) := by
  have hreason : LanesLaw (s.setStm { s.stm with reason := some reason }) := h.after_setStm rfl
  exact (hreason.after_enterFrozen .rejected).aside

theorem LanesLaw.after_rejectNamed (h : LanesLaw s) (reason : RejectReason) (r : Record) :
    LanesLaw (rejectNamed reason r s) := by
  unfold rejectNamed
  split
  next => exact h.after_reject _ _
  next => exact LanesLaw.after_reject h.aside _ _

theorem lanesLaw_acceptOpen (cs : CurrentSet) (r : Record) (s : State) : LanesLaw (acceptOpen cs r s) := by
  rw [acceptOpen_eq]
  exact lanesLaw_of_empty (fun l hl => Option.some.inj hl ▸ laneStep_inRange _ _) rfl rfl

theorem lanesLaw_enterIdle (s : State) : LanesLaw (enterIdle s) := by
  rw [enterIdle_eq]; exact lanesLaw_of_start rfl rfl rfl

/-- R163: a set being prepared is abandoned. -/
theorem LanesLaw.after_abandonOnFull (h : LanesLaw s) : LanesLaw (abandonOnFull s) := by
  unfold abandonOnFull
  split
  next => exact h.after_enterFrozen _
  next => exact h

/-- R65, R99: an accepted record is folded into the digest. -/
theorem LanesLaw.after_countRecord (h : LanesLaw s) (r : Record) : LanesLaw (countRecord r s) := by
  refine ⟨fun l hl => ?_, h.scan, h.chunks, h.queued⟩
  obtain ⟨m, -, rfl⟩ := Option.map_eq_some_iff.1 hl
  exact laneStep_inRange m _

/-! ### The Boot Supervisor (R118 to R131) -/

theorem LanesLaw.after_beginRevert (h : LanesLaw s) : LanesLaw (beginRevert s) :=
  h.of_blocks (by simp) (by simp) (by simp)

theorem LanesLaw.after_demandRevert (h : LanesLaw s) (r : RevertReason) : LanesLaw (demandRevert r s) :=
  h.of_blocks (by simp) (by simp) (by simp)

theorem LanesLaw.after_trialStart (h : LanesLaw s) : LanesLaw (trialStart s) :=
  h.of_blocks (by simp) (by simp) (by simp)

theorem LanesLaw.after_revertFails (h : LanesLaw s) (step : FailStep) : LanesLaw (revertFails step s) := by
  rw [revertFails_eq]; exact h.aside

theorem LanesLaw.after_writeRevert (h : LanesLaw s) : LanesLaw (writeRevert s) := by
  unfold writeRevert
  split
  next => exact h.after_revertFails _
  next => exact h.aside

/-- R69: a COMMITTING set is READY again. -/
theorem LanesLaw.after_commitFails (h : LanesLaw s) (step : FailStep) : LanesLaw (commitFails step s) := by
  have hfailed : LanesLaw (failWrite .commit step s) := h.aside
  unfold commitFails
  dsimp only
  split
  next => exact (hfailed.after_setSetState .ready).aside
  next => exact hfailed

theorem LanesLaw.after_confirmationFails (h : LanesLaw s) (step : FailStep) : LanesLaw (confirmationFails step s) := by
  have hfailed : LanesLaw (failWrite .confirmation step s) := h.aside
  unfold confirmationFails
  dsimp only
  split
  next => exact hfailed.after_beginRevert
  next => exact hfailed.aside

theorem LanesLaw.after_writeFails (h : LanesLaw s) (kind : EntryKind) (step : FailStep) :
    LanesLaw (writeFails kind step s) := by
  cases kind
  case commit => exact h.after_commitFails step
  case attempt => exact LanesLaw.after_beginRevert h.aside
  case confirmation => exact h.after_confirmationFails step
  case revert => exact h.after_revertFails step

theorem LanesLaw.after_elapseTo (h : LanesLaw s) (n : Nat) : LanesLaw (elapseTo n s) := h.aside

theorem LanesLaw.after_failsByReply (h : LanesLaw s) (kind : EntryKind) (reply : PortReply) :
    LanesLaw (failsByReply kind reply s) := by
  unfold failsByReply
  split
  next =>
    split
    next => exact (h.after_elapseTo _).after_writeFails _ _
    next => exact h.after_writeFails _ _
    next => exact h
  next => exact h

theorem LanesLaw.after_beginCommit (h : LanesLaw s) (cs : CurrentSet) : LanesLaw (beginCommit cs s) := by
  unfold beginCommit
  split
  next => exact h.after_commitFails _
  next => exact h.aside

theorem LanesLaw.after_beginConfirmation (h : LanesLaw s) : LanesLaw (beginConfirmation s) := by
  unfold beginConfirmation
  dsimp only
  split
  next => exact LanesLaw.after_confirmationFails h.aside _
  next => exact h.aside

/-- An entry into another set state, or none. -/
theorem LanesLaw.after_setSetState_if (h : LanesLaw s) (p : Prop) [Decidable p] (x : SetState) :
    LanesLaw (if p then setSetState x s else s) := by
  split
  next => exact h.after_setSetState x
  next => exact h

theorem LanesLaw.after_commitLands (h : LanesLaw s) (entry : JournalEntry) : LanesLaw (commitLands entry s) :=
  (LanesLaw.after_setSetState_if h.aside _ .trial).aside

theorem LanesLaw.after_attemptLands (h : LanesLaw s) (entry : JournalEntry) : LanesLaw (attemptLands entry s) := by
  have hlanded : LanesLaw (landEntry entry s) := h.aside
  unfold attemptLands
  dsimp only
  split
  next => exact hlanded.aside
  next =>
    split
    next => exact hlanded.after_beginRevert
    next => exact hlanded.aside

theorem LanesLaw.after_confirmationLands (h : LanesLaw s) (entry : JournalEntry) :
    LanesLaw (confirmationLands entry s) :=
  LanesLaw.after_setSetState_if h.aside _ .installed

/-- R75, R130: a landed revert leaves a TRIAL set REVERTED. -/
theorem LanesLaw.after_revertLands (h : LanesLaw s) (entry : JournalEntry) : LanesLaw (revertLands entry s) := by
  have hset {s : State} (h : LanesLaw s) :
      LanesLaw (if s.stm.setState = .trial then enterFrozen .reverted s else s) := by
    split
    next => exact h.after_enterFrozen _
    next => exact h
  have hrelease {s : State} (h : LanesLaw s) : LanesLaw (if s.sup.part = .starting then
      s.setSup { s.sup with step := .rebuild } else dueRelease .revertLanded s) := by
    split
    next => exact h.aside
    next => exact h.aside
  exact hrelease (hset h.aside)

theorem LanesLaw.after_landsBy (h : LanesLaw s) (kind : EntryKind) {f : JournalEntry → State → State}
    (hf : ∀ entry, LanesLaw (f entry s)) : LanesLaw (landsBy kind f s) := by
  unfold landsBy
  split
  next => exact hf _
  next => exact h

end

end Sys2Proof.Machine
end

section
/-!
PROOF. What records, scans and the log keep of the seventh law (spec 03, 04, 06).
-/

namespace Sys2Proof.Machine

section

variable {s : State}

/-! ### Records (R56 to R73) -/

theorem LanesLaw.after_refuse (h : LanesLaw s) (kind : RecordKind) (reason : RefuseReason) (r : Record) :
    LanesLaw (refuse kind reason r s) := h.aside

theorem LanesLaw.after_takeOpen (h : LanesLaw s) (r : Record) : LanesLaw (takeOpen r s) := by
  unfold takeOpen
  split
  next => exact h.after_refuse _ _ _
  next => exact lanesLaw_acceptOpen _ _ _

theorem LanesLaw.after_rebuildOpen (h : LanesLaw s) (r : Record) : LanesLaw (rebuildOpen r s) := by
  unfold rebuildOpen
  split
  next => exact h.after_refuse _ _ _
  next => exact lanesLaw_acceptOpen _ _ _

/-- R61 check 7: an accepted component has at most 1024 chunks. -/
theorem chunkCount_le_of_componentVerdict {cs : CurrentSet} {r : Record} {k : Nat} {c : Component}
    (h : componentVerdict cs r s = .ok (k, c)) : c.chunkCount ≤ 1024 := by
  unfold componentVerdict at h
  iterate 6 obtain ⟨-, h⟩ := of_check h
  obtain ⟨htotal, h⟩ := of_check h
  iterate 2 obtain ⟨-, h⟩ := of_check h
  obtain ⟨-, rfl⟩ := Prod.mk.inj (Except.ok.inj h)
  omega

theorem LanesLaw.after_putComponent (h : LanesLaw s) (k : Nat) (c : Component) : LanesLaw (putComponent k c s) :=
  h.after_setStm rfl

theorem LanesLaw.after_takeComponent (h : LanesLaw s) (r : Record) : LanesLaw (takeComponent r s) := by
  unfold takeComponent
  split
  next => exact h.after_refuse _ _ _
  next =>
    split
    next => exact h.after_rejectNamed _ _
    next k c hv =>
      have hcount := chunkCount_le_of_componentVerdict hv
      exact ((h.after_putComponent k c).after_createChunks k hcount).after_countRecord r

theorem LanesLaw.after_storeCode (h : LanesLaw s) (p : ChunkRef × Word32) : LanesLaw (storeCode p s) := by
  unfold storeCode
  split
  next c hfind =>
    split
    next => exact h.after_codeChunk (h.chunks c (List.mem_of_find?_eq_some hfind)) _
    next => exact h
  next => exact h

theorem LanesLaw.after_storeCodes (h : LanesLaw s) (run : List (ChunkRef × Word32)) :
    LanesLaw (run.foldl (fun s p => storeCode p s) s) := by
  induction run generalizing s with
  | nil => exact h
  | cons p run ih => exact ih (h.after_storeCode p)

theorem LanesLaw.after_acceptCodes (h : LanesLaw s) (k : Nat) (c : Component) (run : List (ChunkRef × Word32))
    (r : Record) : LanesLaw (acceptCodes k c run r s) := by
  have hstored (c' : Component) := (h.after_storeCodes run).after_putComponent k c'
  unfold acceptCodes
  dsimp only
  split
  next =>
    split
    next => exact ((hstored _).after_putComponent k _).after_countRecord r
    next => exact (hstored _).after_rejectNamed _ _
  next => exact (hstored _).after_countRecord r

theorem LanesLaw.after_takeCodes (h : LanesLaw s) (r : Record) : LanesLaw (takeCodes r s) := by
  unfold takeCodes
  split
  next => exact h.after_refuse _ _ _
  next =>
    split
    next => exact h.after_rejectNamed _ _
    next => exact h.after_acceptCodes _ _ _ _

theorem LanesLaw.after_enterReady (h : LanesLaw s) : LanesLaw (enterReady s) := (h.after_setSetState .ready).aside

theorem LanesLaw.after_takeClose (h : LanesLaw s) (r : Record) : LanesLaw (takeClose r s) := by
  unfold takeClose
  split
  next => exact h.after_refuse _ _ _
  next =>
    split
    next => exact h.after_reject _ _
    next =>
      split
      next => exact h.after_enterReady
      next => exact h.after_setSetState _

theorem LanesLaw.after_takeCommit (h : LanesLaw s) (r : Record) : LanesLaw (takeCommit r s) := by
  unfold takeCommit
  split
  next => exact h.after_refuse _ _ _
  next => exact (h.after_setSetState .committing).after_beginCommit _

theorem LanesLaw.after_takeConfirm (h : LanesLaw s) (r : Record) : LanesLaw (takeConfirm r s) := by
  unfold takeConfirm
  split
  next => exact h.after_refuse _ _ _
  next => exact h.after_beginConfirmation

theorem LanesLaw.after_abandonSet (h : LanesLaw s) (r : Record) : LanesLaw (abandonSet r s) := by
  unfold abandonSet
  split
  next => exact h.after_refuse _ _ _
  next =>
    split
    next => exact h.after_refuse _ _ _
    next =>
      split
      next => exact h.after_enterFrozen _
      next => exact h.after_refuse _ _ _

theorem LanesLaw.after_takeAbandon (h : LanesLaw s) (r : Record) : LanesLaw (takeAbandon r s) := by
  unfold takeAbandon
  split
  next => exact h.after_refuse _ _ _
  next =>
    split
    next =>
      split
      next => exact h.after_refuse _ _ _
      next => exact h.after_demandRevert _
    next => exact h.after_abandonSet r

theorem LanesLaw.after_rebuildAbandon (h : LanesLaw s) (r : Record) : LanesLaw (rebuildAbandon r s) := by
  unfold rebuildAbandon
  split
  next => exact h.after_refuse _ _ _
  next =>
    split
    next => exact h
    next => exact h.after_abandonSet r

theorem LanesLaw.after_takeClear (h : LanesLaw s) (r : Record) : LanesLaw (takeClear r s) := by
  unfold takeClear
  split
  next => exact h.after_refuse _ _ _
  next =>
    dsimp only
    rw [setRestart_if, clearEvents_if]
    exact h.aside

theorem LanesLaw.after_takeRescan (h : LanesLaw s) (r : Record) : LanesLaw (takeRescan r s) := by
  unfold takeRescan
  split
  next => exact h.after_refuse _ _ _
  next => exact h.after_rescan _

theorem LanesLaw.after_takeRecord (h : LanesLaw s) (kind : RecordKind) (r : Record) :
    LanesLaw (takeRecord kind r s) := by
  cases kind
  case openSet => exact h.after_takeOpen r
  case component => exact h.after_takeComponent r
  case codes => exact h.after_takeCodes r
  case close => exact h.after_takeClose r
  case commit => exact h.after_takeCommit r
  case confirm => exact h.after_takeConfirm r
  case abandon => exact h.after_takeAbandon r
  case clear => exact h.after_takeClear r
  case rescan => exact h.after_takeRescan r

theorem LanesLaw.after_rebuildRecord (h : LanesLaw s) (kind : RecordKind) (r : Record) :
    LanesLaw (rebuildRecord kind r s) := by
  cases kind
  case openSet => exact h.after_rebuildOpen r
  case component => exact h.after_takeComponent r
  case codes => exact h.after_takeCodes r
  case close => exact h.after_takeClose r
  case abandon => exact h.after_rebuildAbandon r
  case commit | confirm | clear | rescan => exact h

/-! ### Scans (R86, R87, R104, R105, R108) -/

/-- R96, R104: the head of the queue, whose chunk index is below 1024, seeds the lanes. -/
theorem LanesLaw.after_takeHead (h : LanesLaw s) {r : ChunkRef} {rest : List ChunkRef} (hq : s.ckt.queue = r :: rest)
    (c : Component) (f : FlashTxn) : LanesLaw (takeHead r rest c f s) := by
  have hr : r.chunk < 1024 := h.queued r (hq ▸ List.mem_cons_self)
  have htaken : LanesLaw (s.setCkt { s.ckt with queue := rest }) :=
    h.after_setCkt h.chunks fun q hmem => h.queued q (hq ▸ List.mem_cons_of_mem r hmem)
  refine ((htaken.after_moveChunk r .scanning).after_setScan fun x hx => ?_).aside
  exact Option.some.inj hx ▸ chunkSeed_inRange c.ident hr

theorem LanesLaw.after_countMismatch (h : LanesLaw s) (r : ChunkRef) : LanesLaw (countMismatch r s) := by
  have hcounted : LanesLaw (updateChunk r (fun c => { c with mismatches := min 15 (c.mismatches + 1) }) s) :=
    h.after_updateChunk r fun _ => rfl
  have hthreshold {s : State} (h : LanesLaw s) : LanesLaw (applyThreshold s) := by
    unfold applyThreshold
    split
    next => exact h.after_reject _ _
    next => exact h
  exact hthreshold (LanesLaw.after_setStm hcounted.aside rfl)

theorem LanesLaw.after_preparedOutcome (h : LanesLaw s) (good : Bool) (c : Chunk) :
    LanesLaw (preparedOutcome good c s) := by
  have hmoved (x : ChunkState) := h.after_moveChunk c.ref x
  unfold preparedOutcome
  dsimp only
  split
  next =>
    split
    next =>
      unfold reportAllGood
      split
      next => exact (hmoved _).after_enterReady
      next => exact hmoved _
    next => exact hmoved _
  next =>
    split
    next => exact (hmoved _).after_countMismatch _
    next => exact hmoved _

theorem LanesLaw.after_healthOutcome (h : LanesLaw s) (good : Bool) (c : Chunk) :
    LanesLaw (healthOutcome good c s) := by
  have hbad : LanesLaw (post .healthBad (detailChunk c.ref) (moveChunk c.ref .bad s)) :=
    (h.after_moveChunk c.ref .bad).aside
  unfold healthOutcome
  dsimp only
  split
  next => exact h.after_moveChunk _ _
  next =>
    split
    next => exact hbad.after_demandRevert _
    next => exact hbad

theorem LanesLaw.after_scanOutcome (h : LanesLaw s) (good : Bool) (c : Chunk) : LanesLaw (scanOutcome good c s) := by
  unfold scanOutcome
  dsimp only
  cases (dropScan s).stm.setState
  case receiving | closed | ready => exact h.after_dropScan.after_preparedOutcome good c
  case trial | installed => exact h.after_dropScan.after_healthOutcome good c
  case committing => exact h.after_dropScan.after_moveChunk _ _
  case idle | reverted | abandoned | rejected => exact h.after_dropScan

theorem LanesLaw.after_scanByte (h : LanesLaw s) (b : Byte) {x : ScanContext} (hx : s.scan = some x) :
    LanesLaw (scanByte b x s) := by
  unfold scanByte
  split
  next =>
    dsimp only
    split
    next => exact h.after_scanOutcome _ _
    next => exact h
  next => exact h.after_setScan fun c hc => Option.some.inj hc ▸ foldByte_inRange (h.scan x hx) b false

/-! ### Bytes of an append (R39 to R47) -/

theorem LanesLaw.after_handRecord (h : LanesLaw s) (kind : Byte) (r : Record) : LanesLaw (handRecord kind r s) := by
  unfold handRecord
  split
  next => exact h.after_takeRecord _ r
  next => exact h.aside

theorem LanesLaw.after_completeRecord (h : LanesLaw s) (start : Nat) (hdr body : List Byte) :
    LanesLaw (completeRecord start hdr body s) := by
  unfold completeRecord
  dsimp only
  split
  next => exact LanesLaw.after_handRecord h.aside _ _
  next => exact h.aside

theorem LanesLaw.after_appendByte (h : LanesLaw s) (b : Byte) : LanesLaw (appendByte b s) := by
  unfold appendByte
  dsimp only
  split
  next =>
    split
    next => exact h.aside
    next =>
      split
      next => exact h.aside
      next =>
        split
        next => exact LanesLaw.after_completeRecord h.aside _ _ _
        next => exact h.aside
  next =>
    split
    next => exact h.aside
    next => exact LanesLaw.after_completeRecord h.aside _ _ _

theorem LanesLaw.after_dataByte (h : LanesLaw s) (b : Byte) (start running : Addr) (d : Disposition) :
    LanesLaw (dataByte b start running d s) := by
  cases d
  case forward =>
    have hpassed : LanesLaw (passByte b running s) := h.aside
    cases hc : s.trc.txn.cut with
    | none => rw [dataByte_of_no_cut hc]; exact hpassed
    | some cut =>
      simp only [dataByte, hc, takeByte, discardCut_eq]
      split
      next => exact h.aside
      next =>
        split
        next => exact hpassed.after_appendByte b
        next => exact hpassed
  case suppress | translate | answer | fill => exact h.aside

/-! ### The end of a transaction (R14, R49, R50, R82, R83) -/

theorem LanesLaw.after_endProgram (h : LanesLaw s) (a : Addr) : LanesLaw (endProgram a s) := by
  have hnoticed (page : Nat) := LanesLaw.after_noticeProgram (s := startBusy .program a s) h.aside page
  unfold endProgram noticeLogProgram
  dsimp only
  split
  next =>
    split
    next => exact hnoticed _
    next => exact (hnoticed _).aside
  next => exact hnoticed _

theorem LanesLaw.after_endErase (h : LanesLaw s) (a : Addr) (gs : List Nat) : LanesLaw (endErase a gs s) := by
  have hnoticed := LanesLaw.after_noticeErase (s := startBusy .erase a s) h.aside gs
  unfold endErase noticeLogErase
  dsimp only
  split
  next => exact lanesLaw_enterIdle _
  next => exact hnoticed.aside

theorem LanesLaw.after_endForwarded (h : LanesLaw s) (x : Txn) : LanesLaw (endForwarded x s) := by
  have hcleared : LanesLaw (clearCleanup s) := h.aside
  unfold endForwarded
  split
  next => exact hcleared
  next => exact hcleared
  next =>
    split
    next => exact hcleared.after_endProgram _
    next => exact hcleared
  next => exact hcleared.after_endErase _ _
  next => exact hcleared.after_endErase _ _
  next => exact h

/-! ### The rebuild (R51 to R54, R77) -/

theorem LanesLaw.after_handRebuilt (h : LanesLaw s) (kind : Byte) (r : Record) : LanesLaw (handRebuilt kind r s) := by
  unfold handRebuilt
  split
  next => exact h.after_rebuildRecord _ r
  next => exact h.aside

theorem LanesLaw.after_moveCursor (h : LanesLaw s) (o : Nat) : LanesLaw (moveCursor o s) := by
  rw [moveCursor_eq]; exact h.aside

theorem LanesLaw.after_tearRebuilt (h : LanesLaw s) (start cells : Nat) : LanesLaw (tearRebuilt start cells s) :=
  LanesLaw.after_moveCursor h.aside _

theorem LanesLaw.after_rebuildRecordAt (h : LanesLaw s) (bytes : List Byte) : LanesLaw (rebuildRecordAt bytes s) := by
  have hread : LanesLaw (afterRead s) := h.aside
  unfold rebuildRecordAt
  dsimp only
  split
  next => exact h
  next =>
    split
    next => exact h.aside
    next =>
      split
      next => exact hread.after_tearRebuilt _ _
      next =>
        split
        next => exact h
        next =>
          split
          next => exact (hread.after_moveCursor _).after_handRebuilt _ _
          next => exact hread.after_tearRebuilt _ _

theorem LanesLaw.after_readSector (h : LanesLaw s) (kinds : List Byte) : LanesLaw (readSector kinds s) := by
  rw [readSector_eq]
  split
  next => exact h.aside
  next => exact h

/-- R77: the set settles by its rebuild class, with its digest as it stands. -/
theorem LanesLaw.after_settleSet (h : LanesLaw s) : LanesLaw (settleSet s) := by
  cases hs : s.stm.set with
  | none => rw [settleSet_of_none hs]; exact h.after_setSetState _
  | some cs =>
    match hc : cs.rebuildClass with
    | none => rw [settleSet_of_unrecognized hs (.inl hc)]; exact h.after_setStm rfl
    | some .unrecognized => rw [settleSet_of_unrecognized hs (.inr hc)]; exact h.after_setStm rfl
    | some .installed => rw [settleSet_of_known (x := .installed) hs (by simp [hc])]; exact h.after_setStm rfl
    | some .trial => rw [settleSet_of_known (x := .trial) hs (by simp [hc])]; exact h.after_setStm rfl
    | some .reverted =>
      have hsettled : LanesLaw (s.setStm (settledStm s.stm cs .reverted)) := h.after_setStm rfl
      rw [settleSet_of_reverted hs hc]
      exact hsettled.after_enterFrozen .reverted

end

end Sys2Proof.Machine
end

section
/-!
PROOF. The seventh law at every command and every step (spec 01, 02, 06, 07, 08).
-/

namespace Sys2Proof.Machine

section

variable {s t u : State}

theorem LanesLaw.of_next (h : LanesLaw u) (hx : (.next u : Host.Outcome State Fault Refusal) = .next t) :
    LanesLaw t := Host.Outcome.next.inj hx ▸ h

/-! ### Upstream transactions -/

/-- What a decision point does, or nothing where none stands. -/
theorem LanesLaw.after_deciding (h : LanesLaw s) (c : CmdClass) (code : Byte) (hu : LanesLaw u) :
    LanesLaw (if deciding s c code then u else s) := by
  split
  next => exact hu
  next => exact h

theorem LanesLaw.after_decideRead (h : LanesLaw s) (code : Byte) (a : Addr) : LanesLaw (decideRead code a s) := by
  unfold decideRead
  rw [postFilled_eq]
  dsimp only
  split
  all_goals exact h.aside

theorem LanesLaw.after_decideErase (h : LanesLaw s) (c : CmdClass) (code : Byte) (a : Addr) (gs : List Nat)
    (oor : Option Addr) : LanesLaw (decideErase c code a gs oor s) := by
  unfold decideErase
  split
  next => exact h.aside
  next => rw [postOutOfRange_eq]; exact h.aside

/-- R163: a refused append into a full log abandons a set that is being prepared. -/
theorem LanesLaw.after_decideProgram (h : LanesLaw s) (code : Byte) (a : Addr) : LanesLaw (decideProgram code a s) := by
  by_cases hpermits : permits s (granuleOf a) (programRuling s a).isNone = true
  · rw [decideProgram_of_permits hpermits]; exact h.aside
  · obtain ⟨r, hdecide⟩ := decideProgram_of_not_permits hpermits code
    have hsuppressed : LanesLaw (suppressWrite .program (some a) { s with rpu := r }) := h.aside
    rw [hdecide]
    split
    next => exact hsuppressed.after_abandonOnFull
    next => exact hsuppressed

theorem LanesLaw.after_turnToFill (h : LanesLaw s) (a : Addr) : LanesLaw (turnToFill a s) := by
  rw [turnToFill_eq]; exact h.aside

theorem LanesLaw.after_continueRun (h : LanesLaw s) : LanesLaw (continueRun s) := by
  unfold continueRun
  split
  next =>
    split
    next => exact h
    next => exact h.after_turnToFill _
  next => exact h

theorem LanesLaw.after_leaveWindow (h : LanesLaw s) : LanesLaw (leaveWindow s) := by
  unfold leaveWindow
  split
  next => exact h.after_turnToFill _
  next => exact h

theorem LanesLaw.after_sendToCrossing (h : LanesLaw s) (within : Option Nat) (a : Addr) {judge : State → State}
    (hj : ∀ u, LanesLaw u → LanesLaw (judge u)) : LanesLaw (sendToCrossing within a judge s) := by
  have hsent (n : Nat) : LanesLaw (sendBytes n s) := h.aside
  unfold sendToCrossing
  split
  next => exact hj _ (hsent _)
  next =>
    split
    next => exact hsent _
    next => exact h

theorem LanesLaw.of_readGranuleCrossing (h : LanesLaw s) {within : Option Nat}
    (hx : exec (.readGranuleCrossing within) s = .next t) : LanesLaw t := by
  refine .of_next ?_ hx
  split
  next =>
    split
    next => exact h
    next =>
      split
      next => exact h.after_sendToCrossing _ _ fun _ h => h.after_continueRun
      next =>
        split
        next => exact h.after_sendToCrossing _ _ fun _ h => h
        next => exact h
  next => exact h

theorem LanesLaw.of_reportReadLeavesWindow (h : LanesLaw s) {within : Option Nat}
    (hx : exec (.reportReadLeavesWindow within) s = .next t) : LanesLaw t := by
  refine .of_next ?_ hx
  split
  next =>
    split
    next => exact h.after_sendToCrossing _ _ fun _ h => h.after_leaveWindow
    next => exact h
  next => exact h

/-- R106: the scan context loses its held byte and keeps its lanes. -/
theorem LanesLaw.of_ucsAsserted (h : LanesLaw s) (hx : exec .ucsAsserted s = .next t) : LanesLaw t := by
  refine .of_next ?_ hx
  split
  next => exact h
  next =>
    split
    next =>
      refine LanesLaw.after_setScan h.aside fun c hc => ?_
      obtain ⟨x, hx, rfl⟩ := Option.map_eq_some_iff.1 hc
      exact h.scan x hx
    next => exact h.aside

theorem LanesLaw.of_programDataByte (h : LanesLaw s) {b : Byte} (hx : exec (.programDataByte b) s = .next t) :
    LanesLaw t := by
  refine .of_next ?_ hx
  split
  next => exact h
  next =>
    split
    next => exact h.aside
    next =>
      split
      next => exact h.after_dataByte _ _ _ _
      next => exact h

theorem LanesLaw.of_ucsReleased (h : LanesLaw s) (hx : exec .ucsReleased s = .next t) : LanesLaw t := by
  have hclosed : LanesLaw (closeTxn s) := h.aside
  refine .of_next ?_ hx
  split
  next => exact h
  next =>
    split
    next => exact h.aside
    next =>
      split
      next => exact hclosed.after_endForwarded _
      next => exact hclosed

/-! ### The flash port, the scan, the journal, the start-up -/

/-- The commands that touch no block of the law on any branch. -/
theorem LanesLaw.of_aside (h : LanesLaw s) {i : Instr}
    (hi : i ∈ [.writeDisableCleanup, .cleanupComplete, .statusPoll, .busyLimitExpiry, .scanResume, .presenceTimeout])
    (hx : exec i s = .next t) : LanesLaw t := by
  simp only [List.mem_cons, List.not_mem_nil, or_false] at hi
  obtain rfl | rfl | rfl | rfl | rfl | rfl := hi
  all_goals
    refine .of_next ?_ hx
    repeat' split
    all_goals exact h.aside

theorem LanesLaw.of_statusByte (h : LanesLaw s) {b : Byte} (hx : exec (.statusByte b) s = .next t) : LanesLaw t := by
  refine .of_next ?_ hx
  rw [trackBusy_eq, trackBusy_eq]
  split
  next => exact h.aside
  next =>
    split
    next => exact h.aside
    next => exact h

theorem LanesLaw.of_scanStart (h : LanesLaw s) (hx : exec .scanStart s = .next t) : LanesLaw t := by
  refine .of_next ?_ hx
  split
  next hq =>
    split
    next =>
      split
      next => exact h.after_takeHead hq _ _
      next => exact h
    next => exact h
  next => exact h

theorem LanesLaw.of_scanWord (h : LanesLaw s) {b : Byte} (hx : exec (.scanWord b) s = .next t) : LanesLaw t := by
  refine .of_next ?_ hx
  split
  next hc =>
    split
    next => exact h.after_scanByte b hc
    next => exact h
  next => exact h

theorem LanesLaw.of_scanComplete (h : LanesLaw s) {b : Byte} (hx : exec (.scanComplete b) s = .next t) :
    LanesLaw t := by
  refine .of_next ?_ hx
  split
  next hc =>
    split
    next => exact h.after_scanByte b hc
    next => exact h
  next => exact h

theorem LanesLaw.of_journalPollTimeout (h : LanesLaw s) (hx : exec .journalPollTimeout s = .next t) : LanesLaw t := by
  refine .of_next ?_ hx
  split
  next =>
    split
    next => exact h
    next => exact (h.after_elapseTo _).after_writeFails _ _
  next => exact h

theorem LanesLaw.of_revertRetry (h : LanesLaw s) (hx : exec .revertRetry s = .next t) : LanesLaw t := by
  refine .of_next ?_ hx
  split
  next => exact (h.after_elapseTo _).after_writeRevert
  next => exact h

theorem LanesLaw.of_mrstRelease (h : LanesLaw s) (hx : exec .mrstRelease s = .next t) : LanesLaw t := by
  refine .of_next ?_ hx
  split
  next =>
    dsimp only
    split
    next => exact h.aside
    next => exact h.aside
  next => exact h

theorem LanesLaw.of_confirmTimerExpiry (h : LanesLaw s) (hx : exec .confirmTimerExpiry s = .next t) : LanesLaw t := by
  refine .of_next ?_ hx
  split
  next => exact LanesLaw.after_trialStart h.aside
  next => exact h

theorem lanesLaw_of_powerOn (hx : exec .powerOn s = .next t) : LanesLaw t := by
  rw [powerOnGivesStartValues s] at hx
  exact (lanesLaw_of_start rfl rfl rfl).of_next hx

theorem LanesLaw.of_rstinAsserted (h : LanesLaw s) (hx : exec .rstinAsserted s = .next t) : LanesLaw t := by
  refine .of_next ?_ hx
  split
  next => exact h
  next => exact lanesLaw_of_start rfl rfl rfl

theorem LanesLaw.of_rstinReleased (h : LanesLaw s) (hx : exec .rstinReleased s = .next t) : LanesLaw t := by
  refine .of_next ?_ hx
  split
  next =>
    unfold beginSequence
    split
    next => exact h.aside
    next => exact h.aside
  next => exact h

theorem LanesLaw.of_presenceCheck (h : LanesLaw s) {b : Byte} (hx : exec (.presenceCheck b) s = .next t) :
    LanesLaw t := by
  refine .of_next ?_ hx
  split
  next => exact h
  next =>
    split
    next => exact h.aside
    next =>
      split
      next => exact h.aside
      next => exact h.aside

theorem LanesLaw.of_profileLoad (h : LanesLaw s) {image : List Byte} (hx : exec (.profileLoad image) s = .next t) :
    LanesLaw t := by
  have hloaded (v : ProfileVerdict) (absent : Bool) : LanesLaw (applyVerdict v absent s) := by
    obtain ⟨-, hstm, hckt, hscan, -⟩ := applyVerdict_frame v absent s
    exact h.of_blocks (congrArg Stm.digest hstm) hckt hscan
  refine .of_next ?_ hx
  split
  next => exact h
  next =>
    split
    next => exact (hloaded _ _).aside
    next => exact (hloaded _ _).aside

theorem LanesLaw.after_accountTrial (h : LanesLaw s) : LanesLaw (accountTrial s) := by
  unfold accountTrial
  split
  next => exact LanesLaw.after_trialStart h.aside
  next => exact h.aside

theorem LanesLaw.of_journalRead (h : LanesLaw s) {image : List Byte} (hx : exec (.journalRead image) s = .next t) :
    LanesLaw t := by
  have hread (w : Option (Nat × JournalEntry)) : LanesLaw (applyJournal w s) := by
    unfold applyJournal
    split
    next => exact h.aside
    next => exact h.aside
  refine .of_next ?_ hx
  split
  next => exact (hread _).after_accountTrial
  next => exact h

theorem LanesLaw.of_rebuildReadDone (h : LanesLaw s) {bytes : List Byte}
    (hx : exec (.rebuildReadDone bytes) s = .next t) : LanesLaw t := by
  refine .of_next ?_ hx
  split
  next =>
    split
    next => exact h.after_readSector _
    next => exact h.after_rebuildRecordAt _
  next => exact h

theorem LanesLaw.of_rebuildComplete (h : LanesLaw s) {kinds : List Byte}
    (hx : exec (.rebuildComplete kinds) s = .next t) : LanesLaw t := by
  refine .of_next ?_ hx
  split
  next => exact (LanesLaw.after_settleSet h.aside).aside
  next => exact h

theorem LanesLaw.of_releaseStep (h : LanesLaw s) (hx : exec .releaseStep s = .next t) : LanesLaw t := by
  by_cases hgo : s.sup.step ≠ .release ∨ s.sup.rstin = true
  · exact h.of_next ((congrArg _ (if_pos hgo).symm).trans hx)
  · obtain ⟨hstep, hrstin⟩ := not_or.1 hgo
    rw [exec_releaseStep_of_release (of_not_not hstep) (by simpa using hrstin) rfl rfl] at hx
    exact (LanesLaw.after_fillQueue h.aside).of_next hx

/-! ### Every command, every step -/

/-- R47: what a record command hands to the Set Manager. -/
theorem LanesLaw.after_handOff (h : LanesLaw s) {f : State → State} (hf : LanesLaw (f s)) : LanesLaw (handOff f s) := by
  unfold handOff
  split
  next => exact hf
  next => exact h

theorem LanesLaw.of_unknownKind (h : LanesLaw s) {kind : Byte} {r : Record}
    (hx : exec (.unknownKind kind r) s = .next t) : LanesLaw t := by
  refine .of_next ?_ hx
  split
  next => exact h.after_handOff h.aside
  next => exact h

theorem LanesLaw.of_exec (h : LanesLaw s) (i : Instr) (hx : exec i s = .next t) : LanesLaw t := by
  cases i
  case ucsAsserted => exact h.of_ucsAsserted hx
  case read code a =>
    cases a
    case none => exact (h.after_deciding _ _ h.aside).of_next hx
    case some a => exact (h.after_deciding _ _ (h.after_decideRead code a)).of_next hx
  case readGranuleCrossing => exact h.of_readGranuleCrossing hx
  case reportReadLeavesWindow => exact h.of_reportReadLeavesWindow hx
  case program code a =>
    cases a
    case none => exact (h.after_deciding _ _ h.aside).of_next hx
    case some a => exact (h.after_deciding _ _ (h.after_decideProgram code a)).of_next hx
  case erase4k code a | erase64k code a =>
    cases a
    case none => exact (h.after_deciding _ _ h.aside).of_next hx
    case some a => exact (h.after_deciding _ _ (h.after_decideErase _ code a _ _)).of_next hx
  case statusRead | writeEnable | writeDisable | pass | eraseAll | block =>
    exact (h.after_deciding _ _ h.aside).of_next hx
  case programDataByte => exact h.of_programDataByte hx
  case unknownKind => exact h.of_unknownKind hx
  case openRecord r => exact (h.after_handOff (h.after_takeOpen r)).of_next hx
  case componentRecord r => exact (h.after_handOff (h.after_takeComponent r)).of_next hx
  case codesRecord r => exact (h.after_handOff (h.after_takeCodes r)).of_next hx
  case closeRecord r => exact (h.after_handOff (h.after_takeClose r)).of_next hx
  case commitRecord r => exact (h.after_handOff (h.after_takeCommit r)).of_next hx
  case confirmRecord r => exact (h.after_handOff (h.after_takeConfirm r)).of_next hx
  case abandonRecord r => exact (h.after_handOff (h.after_takeAbandon r)).of_next hx
  case clearRecord r => exact (h.after_handOff (h.after_takeClear r)).of_next hx
  case rescanRecord r => exact (h.after_handOff (h.after_takeRescan r)).of_next hx
  case ucsReleased => exact h.of_ucsReleased hx
  case statusByte => exact h.of_statusByte hx
  case scanStart => exact h.of_scanStart hx
  case scanWord => exact h.of_scanWord hx
  case scanComplete => exact h.of_scanComplete hx
  case journalPollTimeout => exact h.of_journalPollTimeout hx
  case commitEntryLands => exact (h.after_landsBy _ h.after_commitLands).of_next hx
  case attemptEntryLands => exact (h.after_landsBy _ h.after_attemptLands).of_next hx
  case confirmationEntryLands => exact (h.after_landsBy _ h.after_confirmationLands).of_next hx
  case revertEntryLands => exact (h.after_landsBy _ h.after_revertLands).of_next hx
  case commitEntryFails | attemptEntryFails | confirmationEntryFails | revertEntryFails =>
    exact (h.after_failsByReply _ _).of_next hx
  case revertRetry => exact h.of_revertRetry hx
  case mrstRelease => exact h.of_mrstRelease hx
  case confirmTimerExpiry => exact h.of_confirmTimerExpiry hx
  case powerOn => exact lanesLaw_of_powerOn hx
  case rstinAsserted => exact h.of_rstinAsserted hx
  case rstinReleased => exact h.of_rstinReleased hx
  case presenceCheck => exact h.of_presenceCheck hx
  case profileLoad => exact h.of_profileLoad hx
  case journalRead => exact h.of_journalRead hx
  case rebuildReadDone => exact h.of_rebuildReadDone hx
  case rebuildComplete => exact h.of_rebuildComplete hx
  case releaseStep => exact h.of_releaseStep hx
  case writeDisableCleanup | cleanupComplete | statusPoll | busyLimitExpiry | scanResume | presenceTimeout =>
    exact h.of_aside (by simp) hx

end

/-- Settles O57: each command keeps the law (`LanesLaw.of_exec`), and time touches nothing it speaks of. -/
theorem lanesLawKept : Obligations.LanesLawKept := by
  intro s t h hx
  unfold step at hx
  split at hx
  next i rest _ =>
    have hpopped : LanesLaw (s.setPending rest) := h.aside
    exact hpopped.of_exec i hx
  next => exact h.aside.of_next hx

end Sys2Proof.Machine
end

section
/-!
PROOF. The Boot Supervisor (spec 07): what a journal write in flight does when it lands and when it fails, the retry of
a revert, the release of MRST and the expiry of the confirm timer; and the step.
-/

namespace Sys2Proof.Machine

/-! ### The step -/

theorem step_of_empty {s : State} (h : s.pending = []) : step s = .next (elapse 1 s) := by rw [step, h]

theorem step_of_front {s : State} {c : Instr} {rest : List Instr} (h : s.pending = c :: rest) :
    step s = exec c (s.setPending rest) := by rw [step, h]

/-- Settles O1, by the two forms of the queue. -/
theorem stepRunsTheFrontCommand : Obligations.StepRunsTheFrontCommand :=
  ⟨fun _ _ _ h => step_of_front h, fun _ h => step_of_empty h⟩

section Journal

variable {s : State} {kind : EntryKind} {entry : JournalEntry} {since : Nat}

/-! ### Reverts (R130, R131) -/

theorem generationSpent_iff : generationSpent s = true ↔ s.bsv.image.generation = 0xFFFFFFFE#32 := beq_iff_eq

theorem writeRevert_of_generation (hg : s.bsv.image.generation ≠ 0xFFFFFFFE#32) :
    writeRevert s = { s with bsv := writing s .revert (revertOf s.bsv.image) } :=
  if_neg (mt generationSpent_iff.1 hg)

theorem writeRevert_of_spent (hg : s.bsv.image.generation = 0xFFFFFFFE#32) : writeRevert s = revertFails .atOnce s :=
  if_pos (generationSpent_iff.2 hg)

/-- R130: short of the last generation the entry of a revert begun goes in flight, under the demand held. -/
theorem beginRevert_of_generation {demand : Option RevertReason} (hd : s.bsv.demand = demand)
    (hg : s.bsv.image.generation ≠ 0xFFFFFFFE#32) : beginRevert s = { s with
      bsv := { writing s .revert (revertOf s.bsv.image) with
        demand := demand, confirmTimer := none, mrst := some (s.bsv.mrst.getD s.now), releaseDue := none } } := by
  rw [beginRevert_eq, if_neg hg, ← hd]; rfl

/-- R131: in STARTING a revert that fails at once drops its demand. -/
theorem revertSpent_of_starting (h : s.sup.part = .starting) (demand : Option RevertReason) :
    revertSpent s demand = { s.bsv with
      inFlight := none, retryWait := none, demand := none, confirmTimer := none, mrst := some (s.bsv.mrst.getD s.now)
      releaseDue := none } := if_pos h

theorem supSpent_of_starting (h : s.sup.part = .starting) :
    supSpent s = { s.sup with markDegraded := true, step := .rebuild } := if_pos h

/-! ### Trial starts (R124, R125) -/

/-- R124: with attempts left an attempt entry goes in flight. -/
theorem trialStart_of_attempts (ha : s.bsv.image.attempts ≠ 0) (hg : s.bsv.image.generation ≠ 0xFFFFFFFE#32) :
    trialStart s = { s with
      bsv := writing s .attempt { freshEntry s.bsv.image with attempts := s.bsv.image.attempts - 1 } } :=
  (if_neg ha).trans (if_neg (mt generationSpent_iff.1 hg))

/-- R124: with no attempts left the revert begins, with the reason ATTEMPTS unless a demand is held. -/
theorem trialStart_of_no_attempts (ha : s.bsv.image.attempts = 0) (hg : s.bsv.image.generation ≠ 0xFFFFFFFE#32) :
    trialStart s = { s with bsv := { writing s .revert (revertOf s.bsv.image) with
      demand := some (s.bsv.demand.getD .attempts), confirmTimer := none, mrst := some (s.bsv.mrst.getD s.now)
      releaseDue := none } } :=
  (if_pos ha).trans (beginRevert_of_generation (s := holdDemand .attempts s) rfl hg)

/-- R117, R119, R125: at the last generation the attempt entry fails at once, and the entry of the revert that follows
too. -/
theorem trialStart_of_spent (hg : s.bsv.image.generation = 0xFFFFFFFE#32) : trialStart s = { s with
    rpu := (if s.bsv.image.attempts = 0 then s.rpu
      else s.rpu.post .journalFailed (defaultSeq s) (detailBytes 2 0)).post .journalFailed (defaultSeq s)
        (detailBytes 4 0)
    bsv := revertSpent s (some (s.bsv.demand.getD .attempts)), sup := supSpent s } := by
  by_cases ha : s.bsv.image.attempts = 0
  · rw [trialStart, if_pos ha, if_pos ha, beginRevert_spent (s := holdDemand .attempts s) hg]
    rfl
  · rw [trialStart, if_neg ha, if_neg ha, if_pos (generationSpent_iff.2 hg), attemptFails,
      beginRevert_spent (s := holdDemand .attempts (failWrite .attempt .atOnce s)) hg]
    rfl

/-! ### Entries that land (R118, R123, R125, R128, R130) -/

theorem writeOf_of_inFlight (hr : s.bsv.retryWait = none)
    (hf : s.bsv.inFlight = some { kind := kind, entry := entry, since := since }) :
    writeOf kind s = some { kind := kind, entry := entry, since := since } := by
  simp [writeOf, hr, hf]

theorem landsBy_of_inFlight (h : InFlight s kind entry) (f : JournalEntry → State → State) :
    landsBy kind f s = f entry s := by
  obtain ⟨hr, since, hf⟩ := h
  rw [landsBy, writeOf_of_inFlight hr hf]

theorem setSetState_if (p : Prop) [Decidable p] (x : SetState) (s : State) : (if p then setSetState x s else s) =
    { s with stm := { s.stm with setState := if p then x else s.stm.setState } } := by
  split <;> rfl

theorem enterFrozen_if (p : Prop) [Decidable p] (x : SetState) (s : State) : (if p then enterFrozen x s else s) =
    { s with
      stm := { s.stm with setState := if p then x else s.stm.setState }
      ckt := if p then {
          chunks := s.ckt.chunks.map fun c => if c.state = .scanning then { c with state := .dirty } else c
          queue := [] } else s.ckt
      scan := if p then none else s.scan
      trc := if p ∧ s.trc.flash.map FlashTxn.owner = some .scan then { s.trc with flash := none } else s.trc } := by
  by_cases hp : p
  · simp only [hp, if_true, true_and, enterFrozen_eq]
  · simp only [hp, if_false, false_and]

/-- R123: the landing of a commit entry. A set that is not COMMITTING stays as it is. -/
theorem exec_commitEntryLands (h : InFlight s .commit entry) : exec .commitEntryLands s = .next { s with
    bsv := { landed s.bsv entry with
      mrst := some (s.bsv.mrst.getD s.now), releaseDue := some .commitLanded, confirmTaken := false
      restart := .commit }
    stm := { s.stm with setState := if s.stm.setState = .committing then .trial else s.stm.setState }
    rpu := s.rpu.post .commitDone entry.trialSeq
      (detailBytes (byteOf (slotCode entry.trial)) (byteOf entry.attempts)) } := by
  have hexec : exec .commitEntryLands s = .next (commitLands entry s) := congrArg _ (landsBy_of_inFlight h _)
  rw [hexec, commitLands]
  simp only [setSetState_if]
  rfl

/-- R128: the landing of a confirmation entry. -/
theorem exec_confirmationEntryLands (h : InFlight s .confirmation entry) :
    exec .confirmationEntryLands s = .next { s with
      bsv := { landed s.bsv entry with demand := none }
      stm := { s.stm with setState := if s.stm.setState = .trial then .installed else s.stm.setState }
      rpu := s.rpu.post .confirmed entry.trialSeq (detailBytes (byteOf (slotCode entry.committed)) 0) } := by
  have hexec : exec .confirmationEntryLands s = .next (confirmationLands entry s) :=
    congrArg _ (landsBy_of_inFlight h _)
  rw [hexec, confirmationLands]
  simp only [setSetState_if]
  rfl

/-- R125: the landing of an attempt entry, in the start-up, under a demand, or under none. -/
theorem exec_attemptEntryLands (h : InFlight s .attempt entry) : exec .attemptEntryLands s = .next
    (if s.sup.part = .starting then { s with bsv := landed s.bsv entry, sup := { s.sup with step := .rebuild } }
    else if s.bsv.demand.isSome then beginRevert { s with bsv := landed s.bsv entry }
    else { s with bsv := { landed s.bsv entry with releaseDue := some .attemptLanded, confirmTaken := false } }) :=
  congrArg _ (landsBy_of_inFlight h _)

/-- R130: in a start-up the rebuild is next, else MRST is to be released. -/
theorem rebuildOrRelease_eq (p : Prop) [Decidable p] (s : State) :
    (if p then s.setSup { s.sup with step := .rebuild } else dueRelease .revertLanded s) = { s with
    sup := if p then { s.sup with step := .rebuild } else s.sup
    bsv := { s.bsv with
      releaseDue := if p then s.bsv.releaseDue else some .revertLanded
      confirmTaken := if p then s.bsv.confirmTaken else false } } := by
  split <;> rfl

/-- R130: the landing of a revert entry under a demand. -/
theorem revertLands_eq (entry : JournalEntry) {reason : RevertReason} (hd : s.bsv.demand = some reason) :
    revertLands entry s = { s with
      bsv := { landed s.bsv entry with
        restart := .revert, demand := none
        releaseDue := if s.sup.part = .starting then s.bsv.releaseDue else some .revertLanded
        confirmTaken := if s.sup.part = .starting then s.bsv.confirmTaken else false }
      sup := if s.sup.part = .starting then { s.sup with step := .rebuild } else s.sup
      stm := { s.stm with setState := if s.stm.setState = .trial then .reverted else s.stm.setState }
      ckt := if s.stm.setState = .trial then {
          chunks := s.ckt.chunks.map fun c => if c.state = .scanning then { c with state := .dirty } else c
          queue := [] } else s.ckt
      scan := if s.stm.setState = .trial then none else s.scan
      trc := if s.stm.setState = .trial ∧ s.trc.flash.map FlashTxn.owner = some .scan then
        { s.trc with flash := none } else s.trc
      rpu := s.rpu.post .trialReverted entry.trialSeq (detailBytes (byteOf (revertCode reason)) 0) } := by
  rw [revertLands]
  simp only [hd, enterFrozen_if, rebuildOrRelease_eq]
  rfl

/-- Settles O46, kind by kind; an attempt entry that lands in RUN under a demand begins the revert of its own image. -/
theorem journalEntriesLand : Obligations.JournalEntriesLand := by
  intro s entry
  refine ⟨exec_commitEntryLands, exec_confirmationEntryLands, fun h => ?_, fun reason h hd => ?_⟩
  · rw [exec_attemptEntryLands h]
    refine ⟨fun hp => ?_, fun hp hd => ?_, fun hp hd hg => ?_, fun hp hd hg => ?_⟩
    · rw [if_pos hp]
    · rw [if_neg hp, hd]; rfl
    · rw [if_neg hp, if_pos (Option.isSome_iff_ne_none.2 hd),
        beginRevert_of_generation (s := { s with bsv := landed s.bsv entry }) rfl hg]
      rfl
    · rw [if_neg hp, if_pos (Option.isSome_iff_ne_none.2 hd),
        beginRevert_spent (s := { s with bsv := landed s.bsv entry }) hg, supSpent, if_neg hp]
      rfl
  · exact congrArg _ ((landsBy_of_inFlight h _).trans (revertLands_eq entry hd))

/-! ### Entries that fail (R118, R119, R123, R125, R128, R131) -/

variable {step : FailStep} {n : Nat}

/-- R118: the reply decides the step; a poll that did not end in time has lasted its 20 ms. -/
theorem failsByReply_of_failsAt (hr : s.bsv.retryWait = none)
    (hf : s.bsv.inFlight = some { kind := kind, entry := entry, since := since }) {reply : PortReply}
    (h : FailsAt (entryBytes entry) reply step) : failsByReply kind reply s =
      writeFails kind step (if step = .completionPoll then elapse (since + 20 - s.now) s else s) := by
  rw [failsByReply, writeOf_of_inFlight hr hf]
  simp only [(writeOutcome_iff _ _ _).2 h]
  cases step <;> rfl

theorem exec_journalPollTimeout_of_inFlight (hr : s.bsv.retryWait = none)
    (hf : s.bsv.inFlight = some { kind := kind, entry := entry, since := since }) :
    exec .journalPollTimeout s = .next (writeFails kind .completionPoll (elapse (since + 20 - s.now) s)) := by
  simp [exec, execJournalPollTimeout, hf, hr, pollLimit, elapseTo_eq]

/-- The row of a kind whose entry write fails by a reply. -/
theorem exec_of_failRow {i : Instr} {reply : PortReply}
    (h : (kind, i) ∈ [(EntryKind.commit, Instr.commitEntryFails reply), (.attempt, .attemptEntryFails reply),
      (.confirmation, .confirmationEntryFails reply), (.revert, .revertEntryFails reply)]) :
    exec i s = .next (failsByReply kind reply s) := by
  simp only [List.mem_cons, Prod.mk.injEq, List.not_mem_nil, or_false] at h
  obtain ⟨rfl, rfl⟩ | ⟨rfl, rfl⟩ | ⟨rfl, rfl⟩ | ⟨rfl, rfl⟩ := h <;> rfl

theorem failWrite_of_no_retry (hr : s.bsv.retryWait = none) (kind : EntryKind) (step : FailStep) :
    failWrite kind step s = { s with
      bsv := { s.bsv with inFlight := none }
      rpu := s.rpu.post .journalFailed (defaultSeq s)
        (detailBytes (byteOf (entryKindCode kind)) (byteOf (failStepCode step))) } := by
  rw [failWrite_eq, ← hr]

theorem commitFails_of_committing (hs : s.stm.setState = .committing) (step : FailStep) :
    commitFails step s = enterReady (failWrite .commit step s) := if_pos hs

theorem confirmationFails_of_demand {reason : RevertReason} (hd : s.bsv.demand = some reason) (step : FailStep) :
    confirmationFails step s = beginRevert (failWrite .confirmation step s) :=
  if_pos (show s.bsv.demand.isSome by rw [hd]; rfl)

theorem confirmationFails_of_no_demand (hd : s.bsv.demand = none) (step : FailStep) :
    confirmationFails step s = startTimer (failWrite .confirmation step s) :=
  if_neg (show ¬ s.bsv.demand.isSome by rw [hd]; simp)

/-- Settles O47: the command is the failure of its kind's write after `n` ms, and each kind has its rule. -/
theorem journalWritesFail : Obligations.JournalWritesFail := by
  refine ⟨rfl, fun s t kind entry since step i hr hf h => ?_⟩
  have hexec : exec i s = .next (writeFails kind step t) := by
    obtain ⟨rfl, reply, hfail, hrow⟩ | ⟨rfl, rfl, rfl⟩ := h
    · rw [exec_of_failRow hrow, failsByReply_of_failsAt hr hf hfail]
    · exact exec_journalPollTimeout_of_inFlight hr hf
  obtain ⟨n, rfl⟩ : ∃ n, t = elapse n s := by
    obtain ⟨rfl, -⟩ | ⟨rfl, -⟩ := h
    · split
      · exact ⟨_, rfl⟩
      · exact ⟨0, (elapse_zero s).symm⟩
    · exact ⟨_, rfl⟩
  rw [hexec]
  refine ⟨?_, ?_, ?_, ?_, ?_, ?_, ?_, ?_⟩
  · rintro rfl hs
    rw [writeFails, commitFails_of_committing (s := elapse n s) hs, failWrite_of_no_retry (s := elapse n s) hr]
    rfl
  · rintro rfl hg
    rw [writeFails, attemptFails, beginRevert_of_generation rfl (by exact hg)]
    rfl
  · rintro rfl hg
    rw [writeFails, attemptFails, beginRevert_spent (by exact hg)]
    rfl
  · rintro rfl hd
    rw [writeFails, confirmationFails_of_no_demand (s := elapse n s) hd, failWrite_of_no_retry (s := elapse n s) hr]
    rfl
  · rintro reason rfl hd hg
    rw [writeFails, confirmationFails_of_demand (s := elapse n s) hd,
      beginRevert_of_generation (s := failWrite .confirmation step (elapse n s)) hd hg]
    rfl
  · rintro reason rfl hd hg
    rw [writeFails, confirmationFails_of_demand (s := elapse n s) hd, beginRevert_spent (by exact hg),
      show (failWrite .confirmation step (elapse n s)).bsv.demand = some reason from hd]
    rfl
  · rintro rfl hp
    rw [writeFails, revertFails_eq, if_neg (by exact hp), if_neg (by exact hp)]
    rfl
  · rintro rfl hp
    rw [writeFails, revertFails_eq, if_pos (by exact hp), if_pos (by exact hp), ← hr]
    rfl

/-! ### Retries, releases and expiries (R120, R124, R126, R131) -/

theorem exec_revertRetry_of_wait (hr : s.bsv.retryWait = some since) :
    exec .revertRetry s = .next (writeRevert (elapse (since + 250 - s.now) s)) := by
  simp only [exec, execRevertRetry, hr, elapseTo_eq]

/-- R120, R126: the release event decides whether the release hands over a trial that waits for its confirmation. -/
theorem exec_mrstRelease_of_due {e : ReleaseEvent} (hm : s.bsv.mrst = some since) (he : s.bsv.releaseDue = some e) :
    exec .mrstRelease s =
      let t := elapse (since + 10 - s.now) s
      .next { t with bsv := { t.bsv with
        mrst := none, releaseDue := none
        confirmTimer := if e ≠ .revertLanded ∧ s.bsv.image.boot = .trial ∧ ¬ s.bsv.confirmTaken then
            some (2 ^ s.settings.confirmExp * 250)
          else t.bsv.confirmTimer } } := by
  simp only [exec, execMrstRelease, hm, he]
  split
  next h => rw [if_pos (by exact h)]; rfl
  next h => rw [if_neg (by exact h)]; rfl

theorem ne_revertLanded_iff (e : ReleaseEvent) : e ≠ .revertLanded ↔ e = .commitLanded ∨ e = .attemptLanded := by
  cases e <;> decide

/-- The state in which an expired confirm timer makes its trial start (R126). -/
def timerExpired (rest : Nat) (s : State) : State :=
  { elapse rest s with
    rpu := s.rpu.post .trialTimeout s.bsv.image.trialSeq (detailBytes (byteOf s.bsv.image.attempts) 0)
    bsv := { s.bsv with
      confirmTimer := none, mrst := some (s.bsv.mrst.getD (s.now + rest)), releaseDue := none
      restart := .trialTimeout } }

/-- R131: the trial start's revert at the last generation touches MRST and the timer no more than the expiry does. -/
theorem revertSpent_timerExpired (rest : Nat) (s : State) (demand : Option RevertReason) :
    revertSpent (timerExpired rest s) demand =
      { revertSpent (elapse rest s) demand with restart := .trialTimeout } := by
  rw [revertSpent, revertSpent]
  split
  next h => rw [if_pos (by exact h)]; rfl
  next h => rw [if_neg (by exact h)]; rfl

theorem exec_confirmTimerExpiry_of_running {rest : Nat} (hc : s.bsv.confirmTimer = some rest) :
    exec .confirmTimerExpiry s = .next (trialStart (timerExpired rest s)) := by
  simp only [exec, execConfirmTimerExpiry, hc]
  rfl

/-- Settles O48: the retry writes the revert again, the release ends MRST, the expiry makes a trial start. -/
theorem retriesReleasesAndExpiries : Obligations.RetriesReleasesAndExpiries := by
  refine ⟨?_, ?_, ?_⟩
  · rintro s t since hr rfl entry
    rw [exec_revertRetry_of_wait hr]
    refine ⟨fun hg => ?_, fun hg hp => ?_, fun hg hp => ?_⟩
    · rw [writeRevert_of_generation (by exact hg)]; rfl
    · rw [writeRevert_of_spent (by exact hg), revertFails_eq, if_neg (by exact hp), if_neg (by exact hp)]; rfl
    · rw [writeRevert_of_spent (by exact hg), revertFails_eq, if_pos (by exact hp), supSpent]; rfl
  · rintro s t since e hm he rfl
    rw [exec_mrstRelease_of_due hm he]
    simp only [ne_revertLanded_iff, Bool.not_eq_true]
  · rintro s t rest hc rfl expired
    rw [exec_confirmTimerExpiry_of_running hc]
    refine ⟨fun ha hg => ?_, fun entry ha hg he => ?_, fun hg => ?_⟩
    · rw [trialStart_of_attempts (by exact ha) (by exact hg)]; rfl
    · rw [trialStart_of_no_attempts (by exact ha) (by exact hg), he]; rfl
    · rw [trialStart_of_spent (by exact hg), revertSpent_timerExpired]; rfl

end Journal

end Sys2Proof.Machine
end

section
/-!
PROOF. The journal read (spec 07, R116, R124): the fold over the positions finds the winning entry, and the trial it
holds is accounted.
-/

namespace Sys2Proof.Machine

/-! ### The winning entry (R116) -/

section Winner

variable {f : Nat → Option JournalEntry} {n p q : Nat} {b d e : JournalEntry} {img : List Byte}

/-- R116: of the entries below position `n` the one at `p` has the highest generation, of equals the lowest position. -/
structure Wins (f : Nat → Option JournalEntry) (n p : Nat) (e : JournalEntry) : Prop where
  below : p < n
  entry : f p = some e
  beats : ∀ q < n, ∀ d, f q = some d → q = p ∨ d.generation < e.generation ∨ (d.generation = e.generation ∧ p < q)

/-- Two winners would each have to beat the other. -/
theorem Wins.unique (h : Wins f n p e) (h' : Wins f n q d) : (p, e) = (q, d) := by
  have hpq : q = p := by
    have hp := h.beats q h'.below d h'.entry
    have hq := h'.beats p h.below e h.entry
    simp only [BitVec.lt_def, BitVec.toNat_eq] at hp hq
    omega
  subst hpq
  rw [Option.some.inj (h.entry.symm.trans h'.entry)]

theorem wins_first (h : ∀ p < n, f p = none) (hn : f n = some e) : Wins f (n + 1) n e := by
  refine ⟨n.lt_succ_self, hn, fun q hq d hd => .inl ?_⟩
  by_contra hne
  simp [h q (by omega)] at hd

/-- A higher generation at the next position beats whatever the winner so far has beaten. -/
theorem Wins.beaten (h : Wins f n p b) (hn : f n = some e) (hgen : b.generation < e.generation) :
    Wins f (n + 1) n e := by
  refine ⟨n.lt_succ_self, hn, fun q hq d hd => or_iff_not_imp_left.2 fun hne => .inl ?_⟩
  have hq := h.beats q (by omega) d hd
  simp only [BitVec.lt_def, BitVec.toNat_eq] at hq hgen ⊢
  obtain rfl | hless := hq
  · obtain rfl : b = d := Option.some.inj (h.entry.symm.trans hd)
    exact hgen
  · omega

/-- The winner so far stays while the next position holds no higher generation. -/
theorem Wins.stays (h : Wins f n p b) (hn : ∀ e, f n = some e → ¬ b.generation < e.generation) :
    Wins f (n + 1) p b := by
  refine ⟨Nat.lt_succ_of_lt h.below, h.entry, fun q hq d hd => ?_⟩
  obtain hlt | rfl := Nat.lt_succ_iff_lt_or_eq.1 hq
  · exact h.beats q hlt d hd
  · have hgen := hn d hd
    have hp := h.below
    simp only [BitVec.lt_def, BitVec.toNat_eq] at hgen ⊢
    omega

/-- The best candidate of the positions below `n`, or none where no position holds an entry. -/
def IsBest (f : Nat → Option JournalEntry) (n : Nat) : Option (Nat × JournalEntry) → Prop
  | none => ∀ p < n, f p = none
  | some (p, e) => Wins f n p e

theorem IsBest.succ {best : Option (Nat × JournalEntry)} (h : IsBest f n best) :
    IsBest f (n + 1) (better best n (f n)) := by
  cases hn : f n with
  | none =>
    cases best with
    | none => exact Nat.forall_lt_succ_right.2 ⟨h, hn⟩
    | some best => exact Wins.stays h (by simp [hn])
  | some e =>
    cases best with
    | none => exact wins_first h hn
    | some best =>
      simp only [better]
      split
      next hgen => exact Wins.beaten h hn hgen
      next hgen => exact Wins.stays h (by simpa [hn] using hgen)

theorem isBest_foldl (f : Nat → Option JournalEntry) (n : Nat) :
    IsBest f n ((List.range n).foldl (fun best p => better best p (f p)) none) := by
  induction n with
  | zero => exact fun p hp => absurd hp p.not_lt_zero
  | succ n ih =>
    rw [List.range_succ, List.foldl_append]
    exact ih.succ

/-- The entry that a journal image holds at a position. -/
def entryAt (img : List Byte) (p : Nat) : Option JournalEntry := entryOf (positionBytes img p)

theorem isBest_winningEntry (img : List Byte) : IsBest (entryAt img) 16 (winningEntry img) := isBest_foldl _ _

theorem winningEntry_of_blank (h : ∀ p < 16, entryAt img p = none) : winningEntry img = none := by
  have hbest := isBest_winningEntry img
  cases hw : winningEntry img with
  | none => rfl
  | some w =>
    rw [hw] at hbest
    obtain ⟨hp, he, -⟩ : Wins (entryAt img) 16 w.1 w.2 := hbest
    simp [h _ hp] at he

theorem winningEntry_of_wins (h : Wins (entryAt img) 16 p e) : winningEntry img = some (p, e) := by
  have hbest := isBest_winningEntry img
  cases hw : winningEntry img with
  | none =>
    rw [hw] at hbest
    have hnone : entryAt img p = none := hbest p h.below
    exact absurd (h.entry.symm.trans hnone) (by simp)
  | some w =>
    rw [hw] at hbest
    rw [h.unique hbest]

end Winner

/-! ### The trial-start accounting (R124, R142) -/

section Accounting

variable {s : State} {e : JournalEntry} {p : Nat}

/-- The Boot Supervisor with the winning entry as its journal image (R116). -/
def imageFound (s : State) (p : Nat) (e : JournalEntry) : State :=
  { s with bsv := { s.bsv with image := e, position := some p, next := if p = 15 then 0 else p + 1 } }

theorem applyJournal_of_winner (hp : p < 16) (e : JournalEntry) (s : State) :
    applyJournal (some (p, e)) s = imageFound s p e := by
  have hnext : (p + 1) % 16 = if p = 15 then 0 else p + 1 := by split <;> omega
  rw [applyJournal, hnext]; rfl

theorem accountTrial_of_trial (hb : s.bsv.image.boot = .trial) (hp : s.ppc.profile ≠ .invalid) :
    accountTrial s = trialStart (goTo .accounting s) := if_pos ⟨hb, hp⟩

theorem accountTrial_of_none (h : s.bsv.image.boot = .stable ∨ s.ppc.profile = .invalid) :
    accountTrial s = goTo .rebuild s := by
  refine if_neg fun ⟨hb, hp⟩ => ?_
  obtain h | h := h
  · simp [h] at hb
  · exact hp h

theorem exec_journalRead_of_step (h : s.sup.step = .journalRead) (image : List Byte) :
    exec (.journalRead image) s = .next (accountTrial (applyJournal (winningEntry (fit 1024 image)) s)) :=
  congrArg _ (if_pos h)

/-- Settles O51: the winner becomes the image, and its trial is accounted by the rules of a trial start. -/
theorem journalReadFindsTheWinner : Obligations.JournalReadFindsTheWinner := by
  intro s image hstep at_
  rw [exec_journalRead_of_step hstep]
  refine ⟨fun hblank => ?_, fun p e hp he hbeats => ?_⟩
  · rw [winningEntry_of_blank hblank, accountTrial_of_none (.inl rfl)]
    rfl
  rw [winningEntry_of_wins ⟨hp, he, hbeats⟩, applyJournal_of_winner hp]
  refine ⟨fun hrest => ?_, fun hboot hprofile hg => ⟨fun ha => ?_, fun ha => ?_⟩, fun hboot hprofile hg hpart => ?_⟩
  · rw [accountTrial_of_none (by exact hrest)]
    rfl
  all_goals rw [accountTrial_of_trial (by exact hboot) (by exact hprofile)]
  · rw [trialStart_of_attempts (by exact ha) (by exact hg)]
    rfl
  · rw [trialStart_of_no_attempts (by exact ha) (by exact hg)]
    rfl
  · rw [trialStart_of_spent (by exact hg), revertSpent_of_starting (by exact hpart),
      revertSpent_of_starting (by exact hpart), supSpent_of_starting (by exact hpart),
      supSpent_of_starting (by exact hpart)]
    rfl

end Accounting

end Sys2Proof.Machine
end

section
/-!
PROOF. The journal entry as 64 bytes (spec 07, R115, R160): which bytes read as an entry, and that they are those written
for it.
-/

namespace Sys2Proof.Machine

/-! ### Fields of a byte list (spec 00 section 5) -/

section Fields

variable {bs image : List Byte} {i n o : Nat}

theorem length_bytes16 (w : Word16) : (bytes16 w).length = 2 := rfl

theorem bytes16_append (hi lo : Byte) : bytes16 (hi ++ lo) = [lo, hi] := by
  rw [bytes16, BitVec.extractLsb'_append_eq_right, BitVec.extractLsb'_append_eq_left]

theorem bytes16_field16 (bs : List Byte) (i : Nat) : bytes16 (field16 bs i) = [byteAt bs i, byteAt bs (i + 1)] :=
  bytes16_append _ _

theorem bytes32_append (hi lo : Word16) : bytes32 (hi ++ lo) = bytes16 lo ++ bytes16 hi := by
  simp only [bytes32, bytes16, List.cons_append, List.nil_append, List.cons.injEq, and_true]
  exact ⟨BitVec.extractLsb'_append_eq_of_add_le (by decide), BitVec.extractLsb'_append_eq_of_add_le (by decide),
    BitVec.extractLsb'_append_eq_of_le (by decide), BitVec.extractLsb'_append_eq_of_le (by decide)⟩

theorem bytes32_field32 (bs : List Byte) (i : Nat) :
    bytes32 (field32 bs i) = [byteAt bs i, byteAt bs (i + 1), byteAt bs (i + 2), byteAt bs (i + 3)] := by
  rw [field32, bytes32_append, bytes16_field16, bytes16_field16]; rfl

/-- The bytes of a list are those that its positions read. -/
theorem map_byteAt_range (h : bs.length = n) : (List.range n).map (byteAt bs) = bs := by
  subst h
  refine List.ext_getElem (by simp) fun i _ hi => ?_
  simp [byteAt, hi]

theorem ShowsAt.left {xs ys : List Byte} (h : ShowsAt image o (xs ++ ys)) : ShowsAt image o xs :=
  showsAt_iff.2 ((List.prefix_append xs ys).trans (showsAt_iff.1 h))

theorem ShowsAt.right {xs ys : List Byte} (h : ShowsAt image o (xs ++ ys)) (hx : xs.length = n) :
    ShowsAt image (o + n) ys := by
  subst hx
  obtain ⟨rest, hrest⟩ := showsAt_iff.1 h
  refine showsAt_iff.2 ⟨rest, ?_⟩
  rw [← List.drop_drop, ← hrest, List.append_assoc, List.drop_left]

theorem ShowsAt.byteAt_eq (h : ShowsAt image o bs) (hi : i < bs.length) : byteAt image (o + i) = byteAt bs i := by
  rw [byteAt, byteAt, List.getD_eq_getElem?_getD, h.getElem? hi, List.getD_eq_getElem?_getD]

theorem ShowsAt.field16_eq {w : Word16} (h : ShowsAt image o (bytes16 w)) : field16 image o = w := by
  have h0 : byteAt image o = w.extractLsb' 0 8 := h.byteAt_eq (i := 0) Nat.zero_lt_two
  have h1 : byteAt image (o + 1) = w.extractLsb' 8 8 := h.byteAt_eq (i := 1) Nat.one_lt_two
  rw [field16, h0, h1]
  exact BitVec.extractLsb'_append_extractLsb'

theorem ShowsAt.field32_eq {w : Word32} (h : ShowsAt image o (bytes32 w)) : field32 image o = w := by
  have hw : w.extractLsb' 16 16 ++ w.extractLsb' 0 16 = w := BitVec.extractLsb'_append_extractLsb'
  rw [← hw, bytes32_append] at h
  rw [field32, h.left.field16_eq, (h.right (length_bytes16 _)).field16_eq, hw]

end Fields

/-! ### The bytes that hold an entry (R115, R160) -/

section Entry

variable {bs : List Byte} {e : JournalEntry}

/-- The conditions of R115 on an entry's fields. -/
structure Admissible (e : JournalEntry) : Prop where
  generation : e.generation ≠ 0xFFFFFFFF#32
  attempts : e.attempts ≤ 6
  slots : e.boot = .trial → e.trial ≠ e.committed

/-- R160: the bytes hold the fields of an entry at their offsets, and its check. -/
structure HoldsEntry (bs : List Byte) (e : JournalEntry) : Prop where
  generation : field32 bs 0 = e.generation
  boot : byteAt bs 4 = byteOf (bootCode e.boot)
  committed : byteAt bs 5 = byteOf (slotCode e.committed)
  trial : byteAt bs 6 = byteOf (slotCode e.trial)
  attempts : (byteAt bs 7).toNat = e.attempts
  committedSeq : field16 bs 8 = e.committedSeq
  trialSeq : field16 bs 10 = e.trialSeq
  lastReverted : field16 bs 12 = e.lastReverted
  pairs : (Vector.ofFn fun i => pairAt bs i.val) = e.pairs
  check : field16 bs 62 = storeCheck (bs.take 62)

theorem entryBytes_eq_flatten (e : JournalEntry) : entryBytes e =
    [entryHead e, entryPairs e, bytes16 (storeCheck (entryHead e ++ entryPairs e))].flatten := by
  simp [entryBytes]

theorem length_entryBytes (e : JournalEntry) : (entryBytes e).length = 64 := by
  simp [entryBytes, length_entryPairs, entryHead, bytes16, bytes32]

theorem length_entryHead (e : JournalEntry) : (entryHead e).length = 14 := rfl

/-- The entry's pair `i` stands at its six bytes. -/
theorem pairAt_entryBytes (e : JournalEntry) (i : Fin 8) : pairAt (entryBytes e) i.val = e.pairs[i] := by
  have htable : ShowsAt (entryPairs e) (6 * i.val) (pairBytes e.pairs[i]) :=
    showsAt_flatMap length_pairBytes (by simp)
  have h : ShowsAt (entryBytes e) (14 + 6 * i.val) (pairBytes e.pairs[i]) := by
    rw [entryBytes_eq_flatten]
    exact htable.flatten (i := 1) rfl rfl
  have hversion : 16 + 6 * i.val = 14 + 6 * i.val + 2 := by omega
  rw [pairAt, h.left.field16_eq, hversion, (h.right (length_bytes16 _)).field32_eq]

theorem holdsEntry_entryBytes (ha : e.attempts ≤ 6) : HoldsEntry (entryBytes e) e := by
  have htake : (entryBytes e).take 62 = entryHead e ++ entryPairs e :=
    List.take_left' (by simp [length_entryHead, length_entryPairs])
  refine ⟨?_, rfl, rfl, rfl, ?_, BitVec.extractLsb'_append_extractLsb', BitVec.extractLsb'_append_extractLsb',
    BitVec.extractLsb'_append_extractLsb', ?_, ?_⟩
  · refine ShowsAt.field32_eq ?_
    rw [entryBytes, entryHead]
    simp only [List.append_assoc]
    exact (showsAt_self _).left
  · exact Nat.mod_eq_of_lt (by omega)
  · exact Vector.ext fun i hi => by simpa using pairAt_entryBytes e ⟨i, hi⟩
  · rw [htake]
    refine ShowsAt.field16_eq ?_
    rw [entryBytes_eq_flatten]
    exact (showsAt_self _).flatten (i := 2) rfl (by simp [length_entryHead, length_entryPairs])

theorem HoldsEntry.entryHead_eq (h : HoldsEntry bs e) : entryHead e = (List.range 14).map (byteAt bs) := by
  have hattempts : byteOf e.attempts = byteAt bs 7 := by simp [← h.attempts, byteOf]
  rw [entryHead, ← h.generation, ← h.boot, ← h.committed, ← h.trial, hattempts, ← h.committedSeq, ← h.trialSeq,
    ← h.lastReverted, bytes32_field32]
  simp only [bytes16_field16]
  rfl

theorem pairBytes_pairAt (bs : List Byte) (i : Nat) : pairBytes (pairAt bs i) =
    (List.range 6).map fun j => byteAt bs (14 + 6 * i + j) := by
  have hversion : 16 + 6 * i = 14 + 6 * i + 2 := by omega
  rw [pairBytes, pairAt, bytes16_field16, bytes32_field32, hversion]; rfl

theorem HoldsEntry.entryPairs_eq (h : HoldsEntry bs e) :
    entryPairs e = (List.range 48).map fun j => byteAt bs (14 + j) := by
  rw [entryPairs, ← h.pairs]
  simp only [Vector.toList_ofFn, List.ofFn_succ, List.flatMap_cons, pairBytes_pairAt]
  rfl

theorem HoldsEntry.entryBytes_eq (h : HoldsEntry bs e) (hl : bs.length = 64) : entryBytes e = bs := by
  have hbs : (List.range 64).map (byteAt bs) = bs := map_byteAt_range hl
  have htake : bs.take 62 = (List.range 62).map (byteAt bs) := by
    conv_lhs => rw [← hbs]
    rfl
  have hcovered : entryHead e ++ entryPairs e = (List.range 62).map (byteAt bs) := by
    rw [h.entryHead_eq, h.entryPairs_eq]; rfl
  rw [entryBytes, hcovered, ← htake, ← h.check, bytes16_field16, htake]
  exact hbs

/-- R160: 64 bytes hold an entry with at most 6 attempts exactly where they are the bytes written for it. -/
theorem holdsEntry_iff (hl : bs.length = 64) (ha : e.attempts ≤ 6) : HoldsEntry bs e ↔ entryBytes e = bs :=
  ⟨fun h => h.entryBytes_eq hl, fun h => h ▸ holdsEntry_entryBytes ha⟩

theorem toNat_bootCode (b : BootState) : (byteOf (bootCode b)).toNat = bootCode b := by cases b <;> rfl

theorem toNat_slotCode (n : Slot) : (byteOf (slotCode n)).toNat = slotCode n := by cases n <;> rfl

theorem slotOf_eq_some_iff {b : Byte} {n : Slot} : slotOf b.toNat = some n ↔ b = byteOf (slotCode n) := by
  refine ⟨?_, fun h => by rw [h, toNat_slotCode, slotOf_slotCode]⟩
  cases n <;> revert b <;> decide

theorem HoldsEntry.not_blank (h : HoldsEntry bs e) (hl : bs.length = 64) : ¬ bs.all (· == 0xFF#8) = true := by
  intro hall
  have hblank : byteAt bs 4 = 0xFF#8 := by
    simp only [byteAt, List.getD_eq_getElem _ _ (show 4 < bs.length by omega)]
    simpa using List.all_eq_true.1 hall _ (List.getElem_mem _)
  have hboot := h.boot
  rw [hblank] at hboot
  cases hb : e.boot <;> simp [hb, bootCode, byteOf] at hboot

/-- R115: which bytes read as an entry. -/
theorem entryOf_eq_some_iff (hl : bs.length = 64) : entryOf bs = some e ↔ HoldsEntry bs e ∧ Admissible e := by
  constructor
  · intro h
    simp only [entryOf] at h
    split at h
    next boot committed trial hb hc ht =>
      simp only [Option.ite_none_left_eq_some, Option.some.injEq] at h
      obtain ⟨-, hcheck, hgen, hattempts, htrial, rfl⟩ := h
      have hboot : byteAt bs 4 = byteOf (bootCode boot) := by
        split at hb
        next h0 => cases hb; exact BitVec.eq_of_toNat_eq h0
        next h1 => cases hb; exact BitVec.eq_of_toNat_eq h1
        next => cases hb
      exact ⟨⟨rfl, hboot, slotOf_eq_some_iff.1 hc, slotOf_eq_some_iff.1 ht, rfl, rfl, rfl, rfl, rfl,
        not_not.1 hcheck⟩, ⟨hgen, Nat.not_lt.1 hattempts, fun hboot heq => htrial ⟨hboot, heq⟩⟩⟩
    next => cases h
  · rintro ⟨h, hgen, hattempts, hslots⟩
    have hblank := h.not_blank hl
    obtain ⟨generation, boot, committed, trial, attempts, committedSeq, trialSeq, lastReverted, pairs⟩ := e
    obtain ⟨rfl, hboot, hcommitted, htrial, rfl, rfl, rfl, rfl, rfl, hcheck⟩ := h
    simp only at hboot hcommitted htrial hgen hattempts hslots
    simp only [entryOf, hboot, hcommitted, htrial, toNat_slotCode, slotOf_slotCode, toNat_bootCode]
    cases boot <;>
      exact (if_neg hblank).trans <| (if_neg (not_not.2 hcheck)).trans <| (if_neg hgen).trans <|
        (if_neg (Nat.not_lt.2 hattempts)).trans <| if_neg fun h => hslots h.1 h.2

/-- Settles O52: bytes read as an entry where they hold it and it is admissible, and they hold it where they are its
bytes. -/
theorem journalEntriesReadBack : Obligations.JournalEntriesReadBack := by
  refine ⟨fun e hgen hattempts hslots => ?_, fun bs e hl h => ?_⟩
  · have hl := length_entryBytes e
    exact ⟨hl, (entryOf_eq_some_iff hl).2 ⟨(holdsEntry_iff hl hattempts).2 rfl, hgen, hattempts, hslots⟩⟩
  · obtain ⟨hholds, hgen, hattempts, hslots⟩ := (entryOf_eq_some_iff hl).1 h
    exact ⟨(holdsEntry_iff hl hattempts).1 hholds, hgen, hattempts, hslots⟩

end Entry

end Sys2Proof.Machine
end

section
/-!
PROOF. The items of the profile image and the line reset (spec 08): which entry is taken, the settings that the taken
values give, what the values of table items select, the item that fails ENTRY; and RSTIN.
-/

namespace Sys2Proof.Machine

/-! ### The entries of the image and the value taken (R137) -/

theorem length_itemsOf : ∀ bs : List Byte, (itemsOf bs).length = bs.length / 5
  | _ :: _ :: _ :: _ :: _ :: rest => by
    rw [itemsOf, List.length_cons, length_itemsOf rest]
    simp only [List.length_cons]
    omega
  | [] | [_] | [_, _] | [_, _, _] | [_, _, _, _] => by simp [itemsOf]

theorem itemValue_concat (items : List (Byte × Word32)) (k : Byte) (v : Word32) (item : Nat) :
    itemValue (items ++ [(k, v)]) item = if k.toNat = item then some v else itemValue items item := by
  by_cases h : k.toNat = item <;> simp [itemValue, h]

/-! ### The fields of a value (R159) -/

/-- A field of a value as a digit of its number. -/
theorem toNat_field (v : Word32) (i n : Nat) : (v.extractLsb' i n).toNat = v.toNat / 2 ^ i % 2 ^ n := by
  rw [BitVec.extractLsb'_toNat, Nat.shiftRight_eq_div_pow]

/-- The field that ends at a value's highest bit. -/
theorem toNat_highField (v : Word32) {i n : Nat} (h : i + n = 32) : (v.extractLsb' i n).toNat = v.toNat / 2 ^ i := by
  rw [toNat_field, Nat.mod_eq_of_lt]
  refine Nat.div_lt_of_lt_mul ?_
  rw [← pow_add, h]
  exact v.isLt

theorem field_eq_ofNat (v : Word32) (i n : Nat) : v.extractLsb' i n = BitVec.ofNat n (v.toNat / 2 ^ i) :=
  BitVec.eq_of_toNat_eq (by rw [toNat_field, BitVec.toNat_ofNat])

/-! ### Scalars, bit positions and lines (R138) -/

section Scalars

variable {items : List (Byte × Word32)} {item low high dflt shift : Nat} {v : Word32}

theorem scalar_of_given (h : itemValue items item = some v) :
    scalar items item low high dflt = max low (min high v.toNat) := by
  simp only [scalar, h]

theorem scalar_of_absent (h : itemValue items item = none) : scalar items item low high dflt = dflt := by
  simp only [scalar, h]

/-- R138: a clamped value lies in the range, and so does the default. -/
theorem scalar_mem_range (hlow : low ≤ dflt) (hhigh : dflt ≤ high) :
    low ≤ scalar items item low high dflt ∧ scalar items item low high dflt ≤ high := by
  cases h : itemValue items item with
  | none => rw [scalar_of_absent h]; exact ⟨hlow, hhigh⟩
  | some v => rw [scalar_of_given h]; omega

theorem bitPosition_of_given (h : itemValue items 0x40 = some v) :
    bitPosition items shift dflt = min 7 (v.toNat / 2 ^ shift % 256) := by
  simp only [bitPosition, h, toNat_field, Nat.reducePow]

theorem bitPosition_of_absent (h : itemValue items 0x40 = none) : bitPosition items shift dflt = dflt := by
  simp only [bitPosition, h]

theorem bitPosition_le (hd : dflt ≤ 7) : bitPosition items shift dflt ≤ 7 := by
  cases h : itemValue items 0x40 with
  | none => rw [bitPosition_of_absent h]; exact hd
  | some v => rw [bitPosition_of_given h]; exact Nat.min_le_left _ _

/-- R138: every taken number lies in the range of its item. -/
theorem settingsOf_in_range (items : List (Byte × Word32)) :
    20 ≤ (settingsOf items).flashExp ∧ (settingsOf items).flashExp ≤ 24 ∧ (settingsOf items).busyBit ≤ 7 ∧
      (settingsOf items).welBit ≤ 7 ∧ (settingsOf items).progExp ≤ 12 ∧ (settingsOf items).eraseExp ≤ 12 ∧
      (settingsOf items).confirmExp ≤ 7 ∧ (settingsOf items).threshold ≤ 255 := by
  have hrange {item low high dflt : Nat} (hd : low ≤ dflt ∧ dflt ≤ high) :=
    scalar_mem_range (items := items) (item := item) hd.1 hd.2
  exact ⟨(hrange (by decide)).1, (hrange (by decide)).2, bitPosition_le (by decide), bitPosition_le (by decide),
    (hrange (by decide)).2, (hrange (by decide)).2, (hrange (by decide)).2, (hrange (by decide)).2⟩

theorem lineOf_of_given {dflt : LineSource} (h : itemValue items item = some v) :
    lineOf items item dflt = lineSourceOf v.toNat := by
  simp only [lineOf, h]

theorem lineOf_of_absent {dflt : LineSource} (h : itemValue items item = none) : lineOf items item dflt = dflt := by
  simp only [lineOf, h]

/-- R159: the values of a line item and the sources they select. -/
def lineSources : List (Nat × LineSource) :=
  [(0, .const0), (1, .const1), (2, .setReady), (3, .trial), (4, .bootSlot), (5, .scanning), (6, .degraded),
    (7, .alert), (8, .flashBusy)]

theorem lineSourceOf_of_mem : ∀ p ∈ lineSources, lineSourceOf p.1 = p.2 := by decide

theorem lineSourceOf_of_large : ∀ {n : Nat}, 8 < n → lineSourceOf n = .const0
  | _ + 9, _ => rfl

theorem settingsOf_policy (items : List (Byte × Word32)) :
    (settingsOf items).policy = .pass ↔ ∃ v, itemValue items 0x02 = some v ∧ v.toNat = 1 := by
  have hone (v : Word32) : v.toNat = 1 ↔ v = 1#32 := BitVec.toNat_inj (y := 1#32)
  simp [settingsOf, hone]

end Scalars

/-! ### The values of region items (R159) -/

section RegionItems

variable {v : Word32}

/-- The entry of a kind with the granules that a value names. -/
def regionEntry (v : Word32) (k : RegionKind) : Region :=
  { kind := k, base := BitVec.ofNat 12 v.toNat, limit := BitVec.ofNat 12 (v.toNat / 2 ^ 12) }

theorem toNat_kindField (v : Word32) : (v.extractLsb' 24 4).toNat = v.toNat / 2 ^ 24 % 16 := toNat_field v 24 4

theorem mk_eq_regionEntry (v : Word32) (k : RegionKind) :
    ({ kind := k, base := v.extractLsb' 0 12, limit := v.extractLsb' 12 12 } : Region) = regionEntry v k := by
  rw [regionEntry, field_eq_ofNat, field_eq_ofNat, pow_zero, Nat.div_one]

theorem regionOfItem_of_empty (h : v.toNat / 2 ^ 24 % 16 = 0) : regionOfItem v = some none := by
  simp only [regionOfItem, toNat_kindField, h]

theorem regionOfItem_of_slot (h : v.toNat / 2 ^ 24 % 16 = 1) :
    regionOfItem v = (slotOf (v.toNat / 2 ^ 28)).bind fun n => some (some (regionEntry v (.slot n))) := by
  simp only [regionOfItem, toNat_kindField, h, toNat_highField v (show 28 + 4 = 32 from rfl), mk_eq_regionEntry]

/-- R159: the kinds that one number names, without a slot number. -/
def plainKinds : List (Nat × RegionKind) :=
  [(2, .bootView), (3, .manifest), (4, .report), (5, .openArea), (6, .locked), (7, .hidden)]

theorem regionOfItem_of_plain {k : RegionKind} (h : (v.toNat / 2 ^ 24 % 16, k) ∈ plainKinds) :
    regionOfItem v = some (some (regionEntry v k)) := by
  simp only [plainKinds, List.mem_cons, Prod.mk.injEq, List.not_mem_nil, or_false] at h
  obtain ⟨h, rfl⟩ | ⟨h, rfl⟩ | ⟨h, rfl⟩ | ⟨h, rfl⟩ | ⟨h, rfl⟩ | ⟨h, rfl⟩ := h <;>
    simp only [regionOfItem, toNat_kindField, h, mk_eq_regionEntry]

theorem regionOfItem_of_unknown (h : 7 < v.toNat / 2 ^ 24 % 16) : regionOfItem v = none := by
  obtain ⟨n, hn⟩ := Nat.exists_eq_add_of_lt h
  rw [show 7 + n + 1 = n + 8 by omega] at hn
  simp only [regionOfItem, toNat_kindField, hn]

end RegionItems

/-! ### The values of command items (R159) -/

section CommandItems

variable {v : Word32}

/-- The entry of a class with the code, the address flag and the dummies that a value names. -/
def commandEntry (v : Word32) (c : CmdClass) : CmdEntry :=
  { code := BitVec.ofNat 8 v.toNat, cls := c, addrFlag := v.getLsbD 16, dummies := v.toNat / 2 ^ 24 }

/-- A command item's value with its fields as numbers. -/
theorem commandOfItem_eq (v : Word32) : commandOfItem v =
    if v.toNat / 2 ^ 8 % 256 = 0 then some none
    else if 2 < v.toNat / 2 ^ 24 then none
    else (cmdClassOf (v.toNat / 2 ^ 8 % 256)).map fun c => some (commandEntry v c) := by
  have hcode : v.extractLsb' 0 8 = BitVec.ofNat 8 v.toNat := by rw [field_eq_ofNat, pow_zero, Nat.div_one]
  have hclass : (v.extractLsb' 8 8).toNat = v.toNat / 2 ^ 8 % 256 := toNat_field v 8 8
  simp only [commandOfItem, commandEntry, hcode, hclass, toNat_highField v (show 24 + 8 = 32 from rfl)]

/-- R159: the class numbers and the classes they name. -/
def commandClasses : List (Nat × CmdClass) :=
  [(1, .read), (2, .statusRead), (3, .writeEnable), (4, .writeDisable), (5, .program), (6, .erase4k), (7, .erase64k),
    (8, .eraseAll), (9, .pass), (10, .block)]

theorem cmdClassOf_of_mem : ∀ p ∈ commandClasses, p.1 ≠ 0 ∧ cmdClassOf p.1 = some p.2 := by decide

theorem cmdClassOf_of_large : ∀ {n : Nat}, 10 < n → cmdClassOf n = none
  | _ + 11, _ => rfl

theorem commandOfItem_of_empty (h : v.toNat / 2 ^ 8 % 256 = 0) : commandOfItem v = some none := by
  rw [commandOfItem_eq, if_pos h]

theorem commandOfItem_of_invalid (h : v.toNat / 2 ^ 8 % 256 ≠ 0)
    (hbad : 10 < v.toNat / 2 ^ 8 % 256 ∨ 2 < v.toNat / 2 ^ 24) : commandOfItem v = none := by
  rw [commandOfItem_eq, if_neg h]
  by_cases hd : 2 < v.toNat / 2 ^ 24
  · rw [if_pos hd]
  · rw [if_neg hd, cmdClassOf_of_large (hbad.resolve_right hd), Option.map_none]

theorem commandOfItem_of_class {c : CmdClass} (h : (v.toNat / 2 ^ 8 % 256, c) ∈ commandClasses)
    (hd : v.toNat / 2 ^ 24 ≤ 2) : commandOfItem v = some (some (commandEntry v c)) := by
  obtain ⟨hne, hc⟩ := cmdClassOf_of_mem _ h
  rw [commandOfItem_eq, if_neg hne, if_neg (Nat.not_lt.2 hd), hc, Option.map_some]

end CommandItems

/-! ### Table positions and the failing item (R137, R139) -/

section Positions

variable {items : List (Byte × Word32)}

theorem settingsOf_regions (items : List (Byte × Word32)) (i : Fin 12) :
    (settingsOf items).regions[i] = (regionAt items i).join := by simp [settingsOf]

theorem settingsOf_commands (items : List (Byte × Word32)) (i : Fin 24) :
    (settingsOf items).commands[i] = (commandAt items i).join := by simp [settingsOf]

/-- R137: an empty region position, and one whose value is sound. -/
theorem settingsOf_regions_cases (items : List (Byte × Word32)) (i : Fin 12) :
    (itemValue items (0x10 + i.val) = none → (settingsOf items).regions[i] = none) ∧
    ∀ v r, itemValue items (0x10 + i.val) = some v → regionOfItem v = some r → (settingsOf items).regions[i] = r := by
  rw [settingsOf_regions, regionAt]
  refine ⟨fun h => ?_, fun v r h hr => ?_⟩
  · simp only [h, Option.join_some]
  · simp only [h, hr, Option.join_some]

/-- R137: an empty command position, and one whose value is sound. -/
theorem settingsOf_commands_cases (items : List (Byte × Word32)) (i : Fin 24) :
    (itemValue items (0x20 + i.val) = none → (settingsOf items).commands[i] = none) ∧
    ∀ v e, itemValue items (0x20 + i.val) = some v → commandOfItem v = some e →
      (settingsOf items).commands[i] = e := by
  rw [settingsOf_commands, commandAt]
  refine ⟨fun h => ?_, fun v e h he => ?_⟩
  · simp only [h, Option.join_some]
  · simp only [h, he, Option.join_some]

/-- A region position whose value is not one of R159. -/
def BadRegion (items : List (Byte × Word32)) (i : Nat) : Prop :=
  ∃ v, itemValue items (0x10 + i) = some v ∧ regionOfItem v = none

/-- A command position whose value is not one of R159. -/
def BadCommand (items : List (Byte × Word32)) (i : Nat) : Prop :=
  ∃ v, itemValue items (0x20 + i) = some v ∧ commandOfItem v = none

theorem regionAt_isNone_iff (items : List (Byte × Word32)) (i : Nat) :
    (regionAt items i).isNone = true ↔ BadRegion items i := by
  cases h : itemValue items (0x10 + i) <;> simp [regionAt, BadRegion, h]

theorem commandAt_isNone_iff (items : List (Byte × Word32)) (i : Nat) :
    (commandAt items i).isNone = true ↔ BadCommand items i := by
  cases h : itemValue items (0x20 + i) <;> simp [commandAt, BadCommand, h]

/-- R139 test ENTRY as two searches, the region positions first. -/
theorem failingItem_eq (items : List (Byte × Word32)) : failingItem items =
    (((List.range 12).find? fun i => (regionAt items i).isNone).map (0x10 + ·)).or
      (((List.range 24).find? fun i => (commandAt items i).isNone).map (0x20 + ·)) := by
  simp only [failingItem, List.head?_append, List.head?_map, List.head?_filter]

/-- The first number below a bound with a property. -/
theorem find?_range_of_first {p : Nat → Bool} {P : Nat → Prop} (hp : ∀ i, p i = true ↔ P i) {n i : Nat} (hi : i < n)
    (h : P i) (hfirst : ∀ j < i, ¬ P j) : (List.range n).find? p = some i :=
  List.find?_range_eq_some.2 ⟨(hp i).2 h, List.mem_range.2 hi, fun j hj => by simpa [← hp] using hfirst j hj⟩

/-- No number below a bound with a property. -/
theorem find?_range_eq_none_iff {p : Nat → Bool} {P : Nat → Prop} (hp : ∀ i, p i = true ↔ P i) {n : Nat} :
    (List.range n).find? p = none ↔ ∀ i < n, ¬ P i := by
  simp only [List.find?_range_eq_none, Bool.not_eq_true', ← hp, Bool.not_eq_true]

theorem failingItem_eq_none_iff (items : List (Byte × Word32)) :
    failingItem items = none ↔ (∀ i < 12, ¬ BadRegion items i) ∧ ∀ i < 24, ¬ BadCommand items i := by
  rw [failingItem_eq, Option.or_eq_none_iff, Option.map_eq_none_iff, Option.map_eq_none_iff,
    find?_range_eq_none_iff (regionAt_isNone_iff items), find?_range_eq_none_iff (commandAt_isNone_iff items)]

theorem failingItem_of_region {i : Nat} (hi : i < 12) (h : BadRegion items i) (hfirst : ∀ j < i, ¬ BadRegion items j) :
    failingItem items = some (0x10 + i) := by
  rw [failingItem_eq, find?_range_of_first (regionAt_isNone_iff items) hi h hfirst]; rfl

theorem failingItem_of_command {i : Nat} (hi : i < 24) (h : BadCommand items i)
    (hregions : ∀ j < 12, ¬ BadRegion items j) (hfirst : ∀ j < i, ¬ BadCommand items j) :
    failingItem items = some (0x20 + i) := by
  rw [failingItem_eq, (find?_range_eq_none_iff (regionAt_isNone_iff items)).2 hregions,
    find?_range_of_first (commandAt_isNone_iff items) hi h hfirst]; rfl

end Positions

/-- Settles O50, item by item, by whether an entry gives it; then the values of table items by their fields. -/
theorem takenSettingsAreClamped : Obligations.TakenSettingsAreClamped := by
  refine ⟨fun bs rest k b0 b1 b2 b3 h => by rw [h]; rfl, length_itemsOf, itemValue_concat, fun items => ?settings,
    ?regions, ?commands⟩
  case settings =>
    intro given st
    refine ⟨settingsOf_in_range items, fun v h => scalar_of_given h, scalar_of_absent, fun v h => ⟨?busy, ?wel⟩,
      fun h => ⟨bitPosition_of_absent h, bitPosition_of_absent h⟩,
      fun v h => (scalar_of_given h).trans (Nat.zero_max _), scalar_of_absent,
      fun v h => (scalar_of_given h).trans (Nat.zero_max _), scalar_of_absent,
      fun v h => (scalar_of_given h).trans (Nat.zero_max _), scalar_of_absent,
      fun v h => (scalar_of_given h).trans (Nat.zero_max _), scalar_of_absent,
      fun v h hv => (lineOf_of_given h).trans (lineSourceOf_of_large hv), lineOf_of_absent,
      fun v h hv => (lineOf_of_given h).trans (lineSourceOf_of_large hv), lineOf_of_absent,
      fun v source hs => ⟨fun h => (lineOf_of_given h).trans (lineSourceOf_of_mem _ hs),
        fun h => (lineOf_of_given h).trans (lineSourceOf_of_mem _ hs)⟩,
      settingsOf_policy items, settingsOf_regions_cases items, settingsOf_commands_cases items,
      failingItem_eq_none_iff items, fun i => failingItem_of_region, fun i => failingItem_of_command⟩
    case busy => exact (bitPosition_of_given h).trans (by rw [pow_zero, Nat.div_one])
    case wel => exact bitPosition_of_given h
  case regions =>
    rintro v _ _ entry rfl rfl hentry
    obtain rfl : entry = regionEntry v := funext hentry
    refine ⟨regionOfItem_of_empty, fun h => ?_, fun k => regionOfItem_of_plain, regionOfItem_of_unknown⟩
    rw [regionOfItem_of_slot h]
    exact ⟨fun h0 => by rw [h0]; rfl, fun h1 => by rw [h1]; rfl, fun hs => by rw [slotOf_eq_none hs]; rfl⟩
  case commands =>
    rintro v _ _ rfl rfl
    exact ⟨commandOfItem_of_empty, commandOfItem_of_invalid, fun c => commandOfItem_of_class⟩

/-! ### RSTIN (R121, R141, R157) -/

theorem beginSequence_eq (s : State) : beginSequence s = { s with
    sup := { s.sup with step := .presence }
    bsv := { s.bsv with restart := if s.bsv.restart = .none then .start else s.bsv.restart } } := by
  rw [beginSequence, setRestart_if]
  split <;> rfl

/-- Settles O3: the assertion gives the start values and posts, the release begins the sequence. -/
theorem lineResetKeepsEventsAndCause : Obligations.LineResetKeepsEventsAndCause := by
  refine ⟨fun s h => ?_, fun s h => ?_⟩
  · have hexec : exec .rstinAsserted s = .next (post .lineReset (detailBytes (byteOf (partCode s.sup.part)) 0)
        ((startValues (s.bsv.mrst.getD s.now) s.bsv.restart { s.rpu with snapshot := none } s).setSup
          { part := .starting, step := .held, markDegraded := false, rstin := true })) := by
      simp [exec, execRstinAsserted, startValues, h]
    rw [hexec, post_eq]; rfl
  · have hexec : exec .rstinReleased s = .next (beginSequence (s.setSup { s.sup with rstin := false })) := by
      simp [exec, execRstinReleased, h]
    rw [hexec, beginSequence_eq]; rfl

end Sys2Proof.Machine
end

section
/-!
PROOF. The details of events and what a posting does to the event list (R147, R148, R162).
-/

namespace Sys2Proof.Machine

/-! ### Details (R162) -/

theorem detailAddr_toNat (a : Addr) : (detailAddr a).toNat = a.toNat := by
  have := a.isLt
  rw [detailAddr, BitVec.toNat_setWidth]
  omega

theorem toNat_append_eq_add {v w : Nat} (x : BitVec v) (y : BitVec w) :
    (x ++ y).toNat = y.toNat + 2 ^ w * x.toNat := by
  rw [BitVec.toNat_append, ← Nat.shiftLeft_add_eq_or_of_lt y.isLt, Nat.shiftLeft_eq]
  ring

theorem detailWrite_toNat (c : CmdClass) (a : Addr) :
    (detailWrite c a).toNat = a.toNat + 2 ^ 24 * cmdClassCode c := by
  have hcode : (byteOf (cmdClassCode c)).toNat = cmdClassCode c := by cases c <;> rfl
  rw [detailWrite, toNat_append_eq_add, hcode]

theorem detailChunk_toNat {r : ChunkRef} (hcomp : r.comp < 8) (hchunk : r.chunk < 1024) :
    (detailChunk r).toNat = r.comp + 2 ^ 16 * r.chunk := by
  rw [detailChunk, byteOf, toNat_append_eq_add, toNat_append_eq_add]
  simp only [BitVec.toNat_ofNat]
  omega

theorem detailCount_toNat {n : Nat} (h : n < 65536) : (detailCount n).toNat = n := by
  rw [detailCount, toNat_append_eq_add, BitVec.toNat_ofNat, BitVec.toNat_ofNat]
  omega

/-! ### A posting (R147, R148) -/

section Posting

variable {u : Rpu} {older : List Event} {newest : Event} {kind : EventKind} {detail : Word32}

/-- R147: the newest entry absorbs a posting of its own kind and detail. -/
theorem Rpu.post_of_newest (hlast : u.events = older ++ [newest]) (hkey : newest.key = (kind, detail))
    (seq : Word16) : u.post kind seq detail = { u with
      events := older ++ [{ newest with count := if newest.count < 255 then newest.count + 1 else 255, seq := seq }] } := by
  have hcount : min 255 (newest.count + 1) = if newest.count < 255 then newest.count + 1 else 255 := by
    split <;> omega
  simp [Rpu.post, hlast, Prod.mk.inj hkey, hcount]

/-- R147, R148: what comes of a posting that the newest entry, if any, does not absorb. -/
theorem Rpu.post_of_fresh (hfresh : ∀ older newest, u.events = older ++ [newest] → newest.key ≠ (kind, detail))
    (seq : Word16) : u.post kind seq detail =
      if u.events.length < 32 then { u with events := u.events ++ [⟨kind, 1, seq, detail⟩] }
      else { u with overflow := true } := by
  unfold Rpu.post
  dsimp only
  split
  next newest hlast =>
    obtain ⟨older, hlast⟩ := List.getLast?_eq_some_iff.1 hlast
    have hkey : ¬ (newest.kind = kind ∧ newest.detail = detail) := fun h => hfresh older newest hlast (Prod.ext h.1 h.2)
    rw [if_neg hkey]; rfl
  next => rfl

end Posting

/-- Settles O39: each layout by the parts appended, each posting by the newest entry. -/
theorem postingCoalescesAppendsOrDrops : Obligations.PostingCoalescesAppendsOrDrops := by
  refine ⟨detailAddr_toNat, detailWrite_toNat, detailBytes_toNat, fun r => detailChunk_toNat,
    fun n => detailCount_toNat, fun u kind seq detail => ⟨?_, fun h => ?_⟩⟩
  · rintro older newest hlast rfl rfl
    exact Rpu.post_of_newest hlast rfl seq
  · have hfresh : ∀ older newest, u.events = older ++ [newest] → newest.key ≠ (kind, detail) :=
      fun older newest hlast hkey => h older newest hlast (Prod.mk.inj hkey)
    rw [Rpu.post_of_fresh hfresh]
    exact ⟨fun hroom => if_pos hroom, fun hfull => if_neg hfull.not_gt⟩

end Sys2Proof.Machine
end

section
/-!
PROOF. From state to state by postings alone (R146 to R148): how an operation brings the event list from one state to
the next, and the operations of the tracker, the Boot Supervisor and the sets.
-/

namespace Sys2Proof.Machine

/-! ### Postings in a row -/

/-- `v` comes from `u` by postings, whatever becomes of the snapshot. -/
inductive Rpu.Posts (u : Rpu) : Rpu → Prop
  | refl : u.Posts u
  | post {v : Rpu} (h : u.Posts v) (kind : EventKind) (seq : Word16) (detail : Word32) :
    u.Posts (v.post kind seq detail)
  | snapshot {v : Rpu} (h : u.Posts v) (x : Option (List Byte)) : u.Posts { v with snapshot := x }

/-- The event list of `t` comes from that of `s` by postings. -/
def Posts (s t : State) : Prop := s.rpu.Posts t.rpu

section

variable {s t u : State}

theorem Posts.refl : Posts s s := Rpu.Posts.refl

theorem Posts.of_rpu_eq (h : Posts s t) (hu : u.rpu = t.rpu) : Posts s u := by
  unfold Posts; rw [hu]; exact h

/-- What leaves the Report Unit alone adds no posting. -/
theorem Posts.aside (h : Posts s t) {pending now freeDraws trc settings lgp stm ckt scan bsv ppc sup} :
    Posts s { t with
      pending := pending, now := now, freeDraws := freeDraws, trc := trc, settings := settings, lgp := lgp, stm := stm
      ckt := ckt, scan := scan, bsv := bsv, ppc := ppc, sup := sup } := h

/-- One more posting, whatever else it comes with. -/
theorem Posts.posting (h : Posts s t) {kind : EventKind} {seq : Word16} {detail : Word32}
    {pending now freeDraws trc settings lgp stm ckt scan bsv ppc sup} : Posts s { t with
      pending := pending, now := now, freeDraws := freeDraws, trc := trc, settings := settings, lgp := lgp, stm := stm
      ckt := ckt, scan := scan, bsv := bsv, ppc := ppc, sup := sup, rpu := t.rpu.post kind seq detail } :=
  Rpu.Posts.post h kind seq detail

/-- The taking or the dropping of a snapshot (R151) is no posting. -/
theorem Posts.of_snapshot (h : Posts s t) {x : Option (List Byte)} (hu : u.rpu = { t.rpu with snapshot := x }) :
    Posts s u := by
  unfold Posts; rw [hu]; exact Rpu.Posts.snapshot h x

/-! ### The Chunk Tracker posts nothing (R82 to R84, R90 to R93) -/

@[simp] theorem dropScan_rpu (s : State) : (dropScan s).rpu = s.rpu := by rw [dropScan_eq]

@[simp] theorem updateChunk_rpu (r : ChunkRef) (f : Chunk → Chunk) (s : State) : (updateChunk r f s).rpu = s.rpu := rfl

@[simp] theorem moveChunk_rpu (r : ChunkRef) (x : ChunkState) (s : State) : (moveChunk r x s).rpu = s.rpu := rfl

@[simp] theorem enqueue_rpu (r : ChunkRef) (s : State) : (enqueue r s).rpu = s.rpu := by rw [enqueue_eq]

@[simp] theorem dequeue_rpu (r : ChunkRef) (s : State) : (dequeue r s).rpu = s.rpu := rfl

@[simp] theorem reportLeftGood_rpu (s : State) : (reportLeftGood s).rpu = s.rpu := by rw [reportLeftGood_eq]

@[simp] theorem programChunk_rpu (c : Chunk) (s : State) : (programChunk c s).rpu = s.rpu := by
  rw [programChunk_eq]; cases c.state <;> simp

@[simp] theorem eraseChunk_rpu (c : Chunk) (s : State) : (eraseChunk c s).rpu = s.rpu := by
  unfold eraseChunk; cases c.state <;> simp

@[simp] theorem rescanChunk_rpu (c : Chunk) (s : State) : (rescanChunk c s).rpu = s.rpu := by
  unfold rescanChunk; cases c.state <;> simp

@[simp] theorem codeChunk_rpu (c : Chunk) (code : Word32) (s : State) : (codeChunk c code s).rpu = s.rpu := by
  unfold codeChunk; cases c.state <;> simp

theorem forEachChunk_rpu {f : Chunk → State → State} (hf : ∀ c s, (f c s).rpu = s.rpu) (cs : List Chunk) (s : State) :
    (forEachChunk f cs s).rpu = s.rpu :=
  forEachChunk_keeps (p := fun t => t.rpu = s.rpu) (fun c _ t ht => (hf c t).trans ht) rfl

@[simp] theorem noticeProgram_rpu (page : Nat) (s : State) : (noticeProgram page s).rpu = s.rpu := by
  unfold noticeProgram
  split
  next => exact forEachChunk_rpu programChunk_rpu _ s
  next => rfl

@[simp] theorem noticeErase_rpu (gs : List Nat) (s : State) : (noticeErase gs s).rpu = s.rpu := by
  unfold noticeErase
  split
  next => exact forEachChunk_rpu eraseChunk_rpu _ s
  next => rfl

@[simp] theorem rescan_rpu (comp : Option Nat) (s : State) : (rescan comp s).rpu = s.rpu := by
  unfold rescan
  split
  next => exact forEachChunk_rpu rescanChunk_rpu _ s
  next => rfl

@[simp] theorem storeCode_rpu (p : ChunkRef × Word32) (s : State) : (storeCode p s).rpu = s.rpu := by
  unfold storeCode
  split
  next =>
    split
    next => exact codeChunk_rpu _ _ s
    next => rfl
  next => rfl

theorem storeCodes_rpu (run : List (ChunkRef × Word32)) (s : State) :
    (run.foldl (fun s p => storeCode p s) s).rpu = s.rpu := by
  induction run generalizing s with
  | nil => rfl
  | cons p run ih => rw [List.foldl_cons, ih, storeCode_rpu]

theorem fillQueue_rpu (s : State) : (fillQueue s).rpu = s.rpu := by unfold fillQueue; split <;> rfl

/-! ### Entries into a set state (R58, R60, R67, R75, R77) -/

@[simp] theorem enterFrozen_rpu (x : SetState) (s : State) : (enterFrozen x s).rpu = s.rpu := by rw [enterFrozen_eq]

@[simp] theorem acceptOpen_rpu (cs : CurrentSet) (r : Record) (s : State) : (acceptOpen cs r s).rpu = s.rpu := by
  rw [acceptOpen_eq]

@[simp] theorem enterIdle_rpu (s : State) : (enterIdle s).rpu = s.rpu := by rw [enterIdle_eq]

@[simp] theorem abandonOnFull_rpu (s : State) : (abandonOnFull s).rpu = s.rpu := by
  unfold abandonOnFull
  split
  next => exact enterFrozen_rpu _ s
  next => rfl

@[simp] theorem settleSet_rpu (s : State) : (settleSet s).rpu = s.rpu := by
  cases hs : s.stm.set with
  | none => rw [settleSet_of_none hs]; rfl
  | some cs =>
    match hc : cs.rebuildClass with
    | none => rw [settleSet_of_unrecognized hs (.inl hc)]; rfl
    | some .unrecognized => rw [settleSet_of_unrecognized hs (.inr hc)]; rfl
    | some .installed => rw [settleSet_of_known (x := .installed) hs (by simp [hc])]; rfl
    | some .trial => rw [settleSet_of_known (x := .trial) hs (by simp [hc])]; rfl
    | some .reverted => rw [settleSet_of_reverted hs hc, purge_eq]; rfl

theorem Posts.after_enterReady (h : Posts s t) : Posts s (enterReady t) := h.posting

theorem Posts.after_reject (h : Posts s t) (reason : RejectReason) (k : Byte) : Posts s (reject reason k t) := by
  rw [reject_eq]; exact h.posting

theorem Posts.after_rejectNamed (h : Posts s t) (reason : RejectReason) (r : Record) :
    Posts s (rejectNamed reason r t) := by
  unfold rejectNamed
  split
  next => exact h.after_reject _ _
  next => exact Posts.after_reject h.aside _ _

/-! ### The Boot Supervisor (R117 to R131) -/

theorem Posts.after_failWrite (h : Posts s t) (kind : EntryKind) (step : FailStep) :
    Posts s (failWrite kind step t) := h.posting

theorem Posts.after_revertFails (h : Posts s t) (step : FailStep) : Posts s (revertFails step t) := by
  rw [revertFails_eq]; exact h.posting

theorem Posts.after_writeRevert (h : Posts s t) : Posts s (writeRevert t) := by
  unfold writeRevert
  split
  next => exact h.after_revertFails _
  next => exact h.aside

theorem Posts.after_beginRevert (h : Posts s t) : Posts s (beginRevert t) :=
  Posts.after_writeRevert h.aside

theorem Posts.after_demandRevert (h : Posts s t) (r : RevertReason) : Posts s (demandRevert r t) := by
  have hheld : Posts s (holdDemand r t) := h.aside
  unfold demandRevert
  dsimp only
  split
  next => exact hheld.after_beginRevert
  next => exact hheld

theorem Posts.after_attemptFails (h : Posts s t) (step : FailStep) : Posts s (attemptFails step t) :=
  Posts.after_beginRevert ((h.after_failWrite .attempt step).aside)

theorem Posts.after_trialStart (h : Posts s t) : Posts s (trialStart t) := by
  unfold trialStart
  split
  next => exact Posts.after_beginRevert h.aside
  next =>
    split
    next => exact h.after_attemptFails _
    next => exact h.aside

/-- R69: a COMMITTING set is READY again. -/
theorem Posts.after_commitFails (h : Posts s t) (step : FailStep) : Posts s (commitFails step t) := by
  have hfailed := h.after_failWrite .commit step
  unfold commitFails
  dsimp only
  split
  next => exact hfailed.after_enterReady
  next => exact hfailed

theorem Posts.after_confirmationFails (h : Posts s t) (step : FailStep) : Posts s (confirmationFails step t) := by
  have hfailed := h.after_failWrite .confirmation step
  unfold confirmationFails
  dsimp only
  split
  next => exact hfailed.after_beginRevert
  next => exact hfailed.aside

theorem Posts.after_writeFails (h : Posts s t) (kind : EntryKind) (step : FailStep) :
    Posts s (writeFails kind step t) := by
  cases kind
  case commit => exact h.after_commitFails step
  case attempt => exact h.after_attemptFails step
  case confirmation => exact h.after_confirmationFails step
  case revert => exact h.after_revertFails step

theorem Posts.after_failsByReply (h : Posts s t) (kind : EntryKind) (reply : PortReply) :
    Posts s (failsByReply kind reply t) := by
  unfold failsByReply
  split
  next =>
    split
    next => exact Posts.after_writeFails h.aside _ _
    next => exact h.after_writeFails _ _
    next => exact h
  next => exact h

theorem Posts.after_beginCommit (h : Posts s t) (cs : CurrentSet) : Posts s (beginCommit cs t) := by
  unfold beginCommit
  split
  next => exact h.after_commitFails _
  next => exact h.aside

theorem Posts.after_beginConfirmation (h : Posts s t) : Posts s (beginConfirmation t) := by
  unfold beginConfirmation
  dsimp only
  split
  next => exact Posts.after_confirmationFails h.aside _
  next => exact h.aside

/-- A change of state that posts nothing, or none. -/
theorem Posts.after_ite (h : Posts s t) (p : Prop) [Decidable p] {f : State → State} (hf : (f t).rpu = t.rpu) :
    Posts s (if p then f t else t) := by
  split
  next => exact h.of_rpu_eq hf
  next => exact h

theorem Posts.after_commitLands (h : Posts s t) (entry : JournalEntry) : Posts s (commitLands entry t) := by
  have hposted : Posts s (postWith .commitDone entry.trialSeq
      (detailBytes (byteOf (slotCode entry.trial)) (byteOf entry.attempts))
      (setRestart .commit (landEntry entry (assertMrst t)))) := h.posting
  exact (hposted.after_ite _ (f := setSetState .trial) rfl).aside

theorem Posts.after_attemptLands (h : Posts s t) (entry : JournalEntry) : Posts s (attemptLands entry t) := by
  have hlanded : Posts s (landEntry entry t) := h.aside
  unfold attemptLands
  dsimp only
  split
  next => exact hlanded.aside
  next =>
    split
    next => exact hlanded.after_beginRevert
    next => exact hlanded.aside

theorem Posts.after_confirmationLands (h : Posts s t) (entry : JournalEntry) :
    Posts s (confirmationLands entry t) :=
  Posts.after_ite h.posting _ (f := setSetState .installed) rfl

theorem Posts.after_revertLands (h : Posts s t) (entry : JournalEntry) : Posts s (revertLands entry t) := by
  have hrelease {t : State} (h : Posts s t) : Posts s (if t.sup.part = .starting then
      t.setSup { t.sup with step := .rebuild } else dueRelease .revertLanded t) := by
    split
    next => exact h.aside
    next => exact h.aside
  exact hrelease (Posts.after_ite h.posting _ (enterFrozen_rpu .reverted _))

theorem Posts.after_landsBy (h : Posts s t) (kind : EntryKind) {f : JournalEntry → State → State}
    (hf : ∀ entry, Posts s (f entry t)) : Posts s (landsBy kind f t) := by
  unfold landsBy
  split
  next => exact hf _
  next => exact h

end

end Sys2Proof.Machine
end

section
/-!
PROOF. The postings of records, scans and the log (spec 03, 04, 06), and the CLEAR that empties the event list (R149).
-/

namespace Sys2Proof.Machine

/-- The event list is empty and its overflow flag clear (R145, R149). -/
def Emptied (t : State) : Prop := t.rpu.events = [] ∧ t.rpu.overflow = false

section

variable {s t : State}

/-! ### Records (R56 to R73) -/

theorem Posts.after_refuse (h : Posts s t) (kind : RecordKind) (reason : RefuseReason) (r : Record) :
    Posts s (refuse kind reason r t) := h.posting

theorem Posts.after_takeOpen (h : Posts s t) (r : Record) : Posts s (takeOpen r t) := by
  unfold takeOpen
  split
  next => exact h.after_refuse _ _ _
  next => exact h.of_rpu_eq (acceptOpen_rpu _ _ _)

theorem Posts.after_rebuildOpen (h : Posts s t) (r : Record) : Posts s (rebuildOpen r t) := by
  unfold rebuildOpen
  split
  next => exact h.after_refuse _ _ _
  next => exact h.of_rpu_eq (acceptOpen_rpu _ _ _)

theorem Posts.after_takeComponent (h : Posts s t) (r : Record) : Posts s (takeComponent r t) := by
  unfold takeComponent
  split
  next => exact h.after_refuse _ _ _
  next =>
    split
    next => exact h.after_rejectNamed _ _
    next => exact h.aside

theorem Posts.after_acceptCodes (h : Posts s t) (k : Nat) (c : Component) (run : List (ChunkRef × Word32))
    (r : Record) : Posts s (acceptCodes k c run r t) := by
  have hstored : Posts s (run.foldl (fun s p => storeCode p s) t) := h.of_rpu_eq (storeCodes_rpu run t)
  unfold acceptCodes
  dsimp only
  split
  next =>
    split
    next => exact hstored.aside
    next => exact Posts.after_rejectNamed hstored.aside _ _
  next => exact hstored.aside

theorem Posts.after_takeCodes (h : Posts s t) (r : Record) : Posts s (takeCodes r t) := by
  unfold takeCodes
  split
  next => exact h.after_refuse _ _ _
  next =>
    split
    next => exact h.after_rejectNamed _ _
    next => exact h.after_acceptCodes _ _ _ _

theorem Posts.after_takeClose (h : Posts s t) (r : Record) : Posts s (takeClose r t) := by
  unfold takeClose
  split
  next => exact h.after_refuse _ _ _
  next =>
    split
    next => exact h.after_reject _ _
    next =>
      split
      next => exact h.after_enterReady
      next => exact h.aside

theorem Posts.after_takeCommit (h : Posts s t) (r : Record) : Posts s (takeCommit r t) := by
  unfold takeCommit
  split
  next => exact h.after_refuse _ _ _
  next => exact Posts.after_beginCommit h.aside _

theorem Posts.after_takeConfirm (h : Posts s t) (r : Record) : Posts s (takeConfirm r t) := by
  unfold takeConfirm
  split
  next => exact h.after_refuse _ _ _
  next => exact h.after_beginConfirmation

theorem Posts.after_abandonSet (h : Posts s t) (r : Record) : Posts s (abandonSet r t) := by
  unfold abandonSet
  split
  next => exact h.after_refuse _ _ _
  next =>
    split
    next => exact h.after_refuse _ _ _
    next =>
      split
      next => exact h.of_rpu_eq (enterFrozen_rpu _ _)
      next => exact h.after_refuse _ _ _

theorem Posts.after_takeAbandon (h : Posts s t) (r : Record) : Posts s (takeAbandon r t) := by
  unfold takeAbandon
  split
  next => exact h.after_refuse _ _ _
  next =>
    split
    next =>
      split
      next => exact h.after_refuse _ _ _
      next => exact h.after_demandRevert _
    next => exact h.after_abandonSet r

theorem Posts.after_rebuildAbandon (h : Posts s t) (r : Record) : Posts s (rebuildAbandon r t) := by
  unfold rebuildAbandon
  split
  next => exact h.after_refuse _ _ _
  next =>
    split
    next => exact h
    next => exact h.after_abandonSet r

/-- R149: a CLEAR empties the list on bit 0 of its flags, and else leaves it alone. -/
theorem Posts.or_emptied_takeClear (h : Posts s t) (r : Record) :
    Posts s (takeClear r t) ∨ Emptied (takeClear r t) := by
  unfold takeClear
  split
  next => exact .inl (h.after_refuse _ _ _)
  next =>
    dsimp only
    rw [setRestart_if]
    split
    next => exact .inr ⟨rfl, rfl⟩
    next => exact .inl h.aside

theorem Posts.after_takeRescan (h : Posts s t) (r : Record) : Posts s (takeRescan r t) := by
  unfold takeRescan
  split
  next => exact h.after_refuse _ _ _
  next => exact h.of_rpu_eq (rescan_rpu _ _)

/-- R47: of the live records a CLEAR alone can empty the list. -/
theorem Posts.or_emptied_takeRecord (h : Posts s t) (kind : RecordKind) (r : Record) :
    Posts s (takeRecord kind r t) ∨ Emptied (takeRecord kind r t) := by
  cases kind
  case openSet => exact .inl (h.after_takeOpen r)
  case component => exact .inl (h.after_takeComponent r)
  case codes => exact .inl (h.after_takeCodes r)
  case close => exact .inl (h.after_takeClose r)
  case commit => exact .inl (h.after_takeCommit r)
  case confirm => exact .inl (h.after_takeConfirm r)
  case abandon => exact .inl (h.after_takeAbandon r)
  case clear => exact h.or_emptied_takeClear r
  case rescan => exact .inl (h.after_takeRescan r)

/-- R52: at rebuild a CLEAR is skipped. -/
theorem Posts.after_rebuildRecord (h : Posts s t) (kind : RecordKind) (r : Record) :
    Posts s (rebuildRecord kind r t) := by
  cases kind
  case openSet => exact h.after_rebuildOpen r
  case component => exact h.after_takeComponent r
  case codes => exact h.after_takeCodes r
  case close => exact h.after_takeClose r
  case abandon => exact h.after_rebuildAbandon r
  case commit | confirm | clear | rescan => exact h

/-! ### Scans (R86, R87, R105, R108) -/

theorem Posts.after_countMismatch (h : Posts s t) (r : ChunkRef) : Posts s (countMismatch r t) := by
  have hthreshold {t : State} (h : Posts s t) : Posts s (applyThreshold t) := by
    unfold applyThreshold
    split
    next => exact h.after_reject _ _
    next => exact h
  exact hthreshold h.posting

theorem Posts.after_preparedOutcome (h : Posts s t) (good : Bool) (c : Chunk) :
    Posts s (preparedOutcome good c t) := by
  have hmoved (x : ChunkState) : Posts s (moveChunk c.ref x t) := h.aside
  unfold preparedOutcome reportAllGood
  dsimp only
  split
  next =>
    split
    next =>
      split
      next => exact (hmoved _).after_enterReady
      next => exact hmoved _
    next => exact hmoved _
  next =>
    split
    next => exact (hmoved _).after_countMismatch _
    next => exact hmoved _

theorem Posts.after_healthOutcome (h : Posts s t) (good : Bool) (c : Chunk) : Posts s (healthOutcome good c t) := by
  have hbad : Posts s (post .healthBad (detailChunk c.ref) (moveChunk c.ref .bad t)) := h.posting
  unfold healthOutcome
  dsimp only
  split
  next => exact h.aside
  next =>
    split
    next => exact hbad.after_demandRevert _
    next => exact hbad

theorem Posts.after_scanOutcome (h : Posts s t) (good : Bool) (c : Chunk) : Posts s (scanOutcome good c t) := by
  have hdropped : Posts s (dropScan t) := h.of_rpu_eq (dropScan_rpu t)
  unfold scanOutcome
  dsimp only
  cases (dropScan t).stm.setState
  case receiving | closed | ready => exact hdropped.after_preparedOutcome good c
  case trial | installed => exact hdropped.after_healthOutcome good c
  case committing => exact hdropped.aside
  case idle | reverted | abandoned | rejected => exact hdropped

theorem Posts.after_scanByte (h : Posts s t) (b : Byte) (x : ScanContext) : Posts s (scanByte b x t) := by
  unfold scanByte
  split
  next =>
    dsimp only
    split
    next => exact h.after_scanOutcome _ _
    next => exact h
  next => exact h.aside

/-! ### Bytes of an append (R39 to R47) -/

theorem Posts.or_emptied_handRecord (h : Posts s t) (kind : Byte) (r : Record) :
    Posts s (handRecord kind r t) ∨ Emptied (handRecord kind r t) := by
  unfold handRecord
  split
  next => exact h.or_emptied_takeRecord _ r
  next => exact .inl h.posting

theorem Posts.or_emptied_completeRecord (h : Posts s t) (start : Nat) (hdr body : List Byte) :
    Posts s (completeRecord start hdr body t) ∨ Emptied (completeRecord start hdr body t) := by
  unfold completeRecord
  dsimp only
  split
  next => exact Posts.or_emptied_handRecord h.aside _ _
  next => exact .inl h.posting

theorem Posts.or_emptied_appendByte (h : Posts s t) (b : Byte) :
    Posts s (appendByte b t) ∨ Emptied (appendByte b t) := by
  unfold appendByte
  dsimp only
  split
  next =>
    split
    next => exact .inl h.aside
    next =>
      split
      next => exact .inl h.posting
      next =>
        split
        next => exact Posts.or_emptied_completeRecord h.aside _ _ _
        next => exact .inl h.aside
  next =>
    split
    next => exact .inl h.aside
    next => exact Posts.or_emptied_completeRecord h.aside _ _ _

theorem Posts.after_discardCut (h : Posts s t) (boundary : Nat) (running : Addr) :
    Posts s (discardCut boundary running t) := by
  unfold discardCut
  dsimp only
  split
  next => exact h.posting
  next => exact h.aside

theorem Posts.or_emptied_dataByte (h : Posts s t) (b : Byte) (start running : Addr) (d : Disposition) :
    Posts s (dataByte b start running d t) ∨ Emptied (dataByte b start running d t) := by
  cases d
  case forward =>
    have hpassed : Posts s (passByte b running t) := h.aside
    unfold dataByte takeByte
    dsimp only
    split
    next =>
      split
      next => exact .inl (h.after_discardCut _ _)
      next =>
        split
        next => exact hpassed.or_emptied_appendByte b
        next => exact .inl hpassed
    next => exact .inl hpassed
  case suppress | translate | answer | fill => exact .inl h.aside

/-! ### The end of a transaction posts nothing (R14, R49, R50, R82, R83) -/

theorem endProgram_rpu (a : Addr) (s : State) : (endProgram a s).rpu = s.rpu := by
  unfold endProgram noticeLogProgram
  dsimp only
  split
  next => split <;> exact noticeProgram_rpu _ _
  next => exact noticeProgram_rpu _ _

theorem endErase_rpu (a : Addr) (gs : List Nat) (s : State) : (endErase a gs s).rpu = s.rpu := by
  unfold endErase noticeLogErase
  dsimp only
  split
  next => rw [enterIdle_rpu]; exact noticeErase_rpu _ _
  next => exact noticeErase_rpu _ _

theorem endForwarded_rpu (x : Txn) (s : State) : (endForwarded x s).rpu = s.rpu := by
  unfold endForwarded
  split
  next => rfl
  next => rfl
  next =>
    split
    next => exact endProgram_rpu _ _
    next => rfl
  next => exact endErase_rpu _ _ _
  next => exact endErase_rpu _ _ _
  next => rfl

/-! ### The rebuild (R51 to R54) -/

theorem Posts.after_handRebuilt (h : Posts s t) (kind : Byte) (r : Record) : Posts s (handRebuilt kind r t) := by
  unfold handRebuilt
  split
  next => exact h.after_rebuildRecord _ r
  next => exact h.posting

theorem Posts.after_moveCursor (h : Posts s t) (o : Nat) : Posts s (moveCursor o t) := by
  rw [moveCursor_eq]; exact h.aside

theorem Posts.after_tearRebuilt (h : Posts s t) (start cells : Nat) : Posts s (tearRebuilt start cells t) :=
  Posts.after_moveCursor h.posting _

theorem Posts.after_rebuildRecordAt (h : Posts s t) (bytes : List Byte) : Posts s (rebuildRecordAt bytes t) := by
  have hread : Posts s (afterRead t) := h.aside
  unfold rebuildRecordAt
  dsimp only
  split
  next => exact h
  next =>
    split
    next => exact h.aside
    next =>
      split
      next => exact hread.after_tearRebuilt _ _
      next =>
        split
        next => exact h
        next =>
          split
          next => exact (hread.after_moveCursor _).after_handRebuilt _ _
          next => exact hread.after_tearRebuilt _ _

end

end Sys2Proof.Machine
end

section
/-!
PROOF. Every command brings the event list to the next state by postings, or empties it (spec 09); the ninth law, and
entries that stay until a CLEAR or a power-on.
-/

namespace Sys2Proof.Machine

section

variable {s t u : State}

theorem Posts.of_next (h : Posts s u) (hx : (.next u : Host.Outcome State Fault Refusal) = .next t) : Posts s t :=
  Host.Outcome.next.inj hx ▸ h

/-! ### Upstream transactions (spec 01, 02) -/

/-- What a decision point does, or nothing where none stands. -/
theorem posts_deciding {c : CmdClass} {code : Byte} (hu : Posts s u) :
    Posts s (if deciding s c code then u else s) := by
  split
  next => exact hu
  next => exact .refl

/-- R24, R33, R34: FILLED_READ, and OUT_OF_RANGE after it. -/
theorem Posts.after_postFilled (h : Posts s t) (a : Addr) : Posts s (postFilled a t) := by
  have hfilled : Posts s (post .filledRead (detailAddr a) t) := h.posting
  unfold postFilled
  dsimp only
  split
  next => exact hfilled.posting
  next => exact hfilled

/-- R25, R151: an answered READ takes its snapshot, a filled one posts. -/
theorem posts_decideRead (code : Byte) (a : Addr) (s : State) : Posts s (decideRead code a s) := by
  unfold decideRead
  dsimp only
  cases (lookup s.settings (granuleOf a)).kind
  case slot | manifest | openArea | locked | bootView => exact Posts.refl.aside
  case report => exact Posts.refl.of_snapshot rfl
  case hidden => exact Posts.after_postFilled Posts.refl.aside a

theorem Posts.after_suppressWrite (h : Posts s t) (c : CmdClass) (a : Option Addr) : Posts s (suppressWrite c a t) :=
  h.posting

theorem Posts.after_postOutOfRange (h : Posts s t) (a : Option Addr) : Posts s (postOutOfRange a t) := by
  unfold postOutOfRange
  split
  next => exact h.posting
  next => exact h

theorem posts_decideErase (c : CmdClass) (code : Byte) (a : Addr) (gs : List Nat) (oor : Option Addr) (s : State) :
    Posts s (decideErase c code a gs oor s) := by
  unfold decideErase
  split
  next => exact Posts.refl.aside
  next => exact (Posts.refl.after_postOutOfRange oor).after_suppressWrite c _

/-- R8, R24, R38: a refused PROGRAM's ruling is posted, then OUT_OF_RANGE, then SUPPRESSED_WRITE. -/
theorem posts_decideProgram (code : Byte) (a : Addr) (s : State) : Posts s (decideProgram code a s) := by
  have hruled (k : Option EventKind) : Posts s (postRuling k a s) := by
    cases k
    case none => exact .refl
    case some k => exact Posts.refl.posting
  have hrefused (k : Option EventKind) (o : Option Addr) :=
    ((hruled k).after_postOutOfRange o).after_suppressWrite .program (some a)
  by_cases hpermits : permits s (granuleOf a) (programRuling s a).isNone = true
  · rw [decideProgram_of_permits hpermits]; exact Posts.refl.aside
  · have hdecide : decideProgram code a s = _ := if_neg hpermits
    rw [hdecide]
    exact (hrefused _ _).after_ite _ (abandonOnFull_rpu _)

theorem Posts.after_turnToFill (h : Posts s t) (a : Addr) : Posts s (turnToFill a t) :=
  Posts.after_postFilled h.aside a

theorem Posts.after_continueRun (h : Posts s t) : Posts s (continueRun t) := by
  unfold continueRun
  split
  next =>
    split
    next => exact h
    next => exact h.after_turnToFill _
  next => exact h

theorem Posts.after_leaveWindow (h : Posts s t) : Posts s (leaveWindow t) := by
  unfold leaveWindow
  split
  next => exact h.after_turnToFill _
  next => exact h

theorem posts_sendToCrossing (within : Option Nat) (a : Addr) {judge : State → State}
    (hj : ∀ t, Posts s t → Posts s (judge t)) : Posts s (sendToCrossing within a judge s) := by
  unfold sendToCrossing
  split
  next => exact hj _ Posts.refl.aside
  next =>
    split
    next => exact Posts.refl.aside
    next => exact .refl

theorem posts_of_readGranuleCrossing {within : Option Nat} (hx : exec (.readGranuleCrossing within) s = .next t) :
    Posts s t := by
  refine .of_next ?_ hx
  split
  next =>
    split
    next => exact .refl
    next =>
      split
      next => exact posts_sendToCrossing _ _ fun _ h => h.after_continueRun
      next =>
        split
        next => exact posts_sendToCrossing _ _ fun _ h => h
        next => exact .refl
  next => exact .refl

theorem posts_of_reportReadLeavesWindow {within : Option Nat}
    (hx : exec (.reportReadLeavesWindow within) s = .next t) : Posts s t := by
  refine .of_next ?_ hx
  split
  next =>
    split
    next => exact posts_sendToCrossing _ _ fun _ h => h.after_leaveWindow
    next => exact .refl
  next => exact .refl

/-- R47, R149: the byte that completes a CLEAR can empty the list. -/
theorem posts_or_emptied_of_programDataByte {b : Byte} (hx : exec (.programDataByte b) s = .next t) :
    Posts s t ∨ Emptied t := by
  obtain rfl := Host.Outcome.next.inj hx
  split
  next => exact .inl .refl
  next =>
    split
    next => exact .inl Posts.refl.aside
    next =>
      split
      next => exact Posts.refl.or_emptied_dataByte _ _ _ _
      next => exact .inl .refl

theorem posts_of_ucsReleased (hx : exec .ucsReleased s = .next t) : Posts s t := by
  have hclosed : Posts s (closeTxn s) := Posts.refl.of_snapshot rfl
  refine .of_next ?_ hx
  split
  next => exact .refl
  next =>
    split
    next => exact Posts.refl.aside
    next =>
      split
      next => exact hclosed.of_rpu_eq (endForwarded_rpu _ _)
      next => exact hclosed

/-! ### The flash port, the scan, the journal, the start-up (spec 01, 06, 07, 08) -/

/-- The commands that leave the Report Unit alone on every branch. -/
theorem posts_of_silent {i : Instr} (hi : i ∈ [.ucsAsserted, .writeDisableCleanup, .cleanupComplete, .statusPoll,
    .scanStart, .scanResume, .presenceTimeout]) (hx : exec i s = .next t) :
    Posts s t := by
  simp only [List.mem_cons, List.not_mem_nil, or_false] at hi
  obtain rfl | rfl | rfl | rfl | rfl | rfl | rfl := hi
  all_goals
    refine .of_next ?_ hx
    repeat' split
    all_goals exact Posts.refl.aside

theorem posts_of_statusByte {b : Byte} (hx : exec (.statusByte b) s = .next t) : Posts s t := by
  refine .of_next ?_ hx
  rw [trackBusy_eq, trackBusy_eq]
  split
  next => exact Posts.refl.aside
  next => split <;> exact Posts.refl.aside

theorem posts_of_busyLimitExpiry (hx : exec .busyLimitExpiry s = .next t) : Posts s t := by
  refine .of_next ?_ hx
  split
  next =>
    split
    next => exact .refl
    next => exact Posts.refl.posting
  next => exact .refl

theorem posts_of_scanWord {b : Byte} (hx : exec (.scanWord b) s = .next t) : Posts s t := by
  refine .of_next ?_ hx
  split
  next =>
    split
    next => exact Posts.refl.after_scanByte b _
    next => exact .refl
  next => exact .refl

theorem posts_of_scanComplete {b : Byte} (hx : exec (.scanComplete b) s = .next t) : Posts s t := by
  refine .of_next ?_ hx
  split
  next =>
    split
    next => exact Posts.refl.after_scanByte b _
    next => exact .refl
  next => exact .refl

theorem posts_of_journalPollTimeout (hx : exec .journalPollTimeout s = .next t) : Posts s t := by
  refine .of_next ?_ hx
  split
  next =>
    split
    next => exact .refl
    next => exact Posts.after_writeFails Posts.refl.aside _ _
  next => exact .refl

theorem posts_of_revertRetry (hx : exec .revertRetry s = .next t) : Posts s t := by
  refine .of_next ?_ hx
  split
  next => exact Posts.after_writeRevert Posts.refl.aside
  next => exact .refl

theorem posts_of_mrstRelease (hx : exec .mrstRelease s = .next t) : Posts s t := by
  refine .of_next ?_ hx
  split
  next =>
    dsimp only
    split <;> exact Posts.refl.aside
  next => exact .refl

theorem posts_of_confirmTimerExpiry (hx : exec .confirmTimerExpiry s = .next t) : Posts s t := by
  refine .of_next ?_ hx
  split
  next => exact Posts.after_trialStart Posts.refl.posting
  next => exact .refl

theorem emptied_of_powerOn (hx : exec .powerOn s = .next t) : Emptied t := by
  obtain rfl := Host.Outcome.next.inj ((powerOnGivesStartValues s).symm.trans hx)
  exact ⟨rfl, rfl⟩

/-- R145: a line reset keeps the list, drops the snapshot and posts LINE_RESET. -/
theorem posts_of_rstinAsserted (hx : exec .rstinAsserted s = .next t) : Posts s t := by
  have hreset : Posts s { s with rpu := { s.rpu with snapshot := none } } := Posts.refl.of_snapshot rfl
  refine .of_next ?_ hx
  split
  next => exact .refl
  next => exact hreset.posting

theorem posts_of_rstinReleased (hx : exec .rstinReleased s = .next t) : Posts s t := by
  refine .of_next ?_ hx
  rw [beginSequence_eq]
  split <;> exact Posts.refl.aside

theorem posts_of_presenceCheck {b : Byte} (hx : exec (.presenceCheck b) s = .next t) : Posts s t := by
  refine .of_next ?_ hx
  repeat' split
  all_goals exact Posts.refl.aside

/-- R140: a profile that is not loaded is posted as DEFAULT or INVALID. -/
theorem posts_applyVerdict (v : ProfileVerdict) (absent : Bool) (s : State) : Posts s (applyVerdict v absent s) := by
  cases v
  case loaded => exact Posts.refl.aside
  case default | invalid => exact Posts.refl.posting

theorem posts_of_profileLoad {image : List Byte} (hx : exec (.profileLoad image) s = .next t) : Posts s t := by
  refine .of_next ?_ hx
  split
  next => exact .refl
  next =>
    split
    next => exact (posts_applyVerdict _ _ s).aside
    next => exact (posts_applyVerdict .default true s).posting

theorem posts_of_journalRead {image : List Byte} (hx : exec (.journalRead image) s = .next t) : Posts s t := by
  have hread (w : Option (Nat × JournalEntry)) : Posts s (applyJournal w s) := by
    unfold applyJournal
    split <;> exact Posts.refl.aside
  refine .of_next ?_ hx
  unfold accountTrial
  split
  next =>
    split
    next => exact Posts.after_trialStart (hread _).aside
    next => exact (hread _).aside
  next => exact .refl

theorem posts_of_rebuildReadDone {bytes : List Byte} (hx : exec (.rebuildReadDone bytes) s = .next t) : Posts s t := by
  refine .of_next ?_ hx
  split
  next =>
    split
    next => rw [readSector_eq]; split <;> exact Posts.refl.aside
    next => exact Posts.refl.after_rebuildRecordAt _
  next => exact .refl

theorem posts_of_rebuildComplete {kinds : List Byte} (hx : exec (.rebuildComplete kinds) s = .next t) :
    Posts s t := by
  refine .of_next ?_ hx
  split
  next => exact Posts.refl.of_rpu_eq (settleSet_rpu _)
  next => exact .refl

theorem posts_of_releaseStep (hx : exec .releaseStep s = .next t) : Posts s t := by
  by_cases hgo : s.sup.step ≠ .release ∨ s.sup.rstin = true
  · exact Posts.refl.of_next ((congrArg _ (if_pos hgo).symm).trans hx)
  · obtain ⟨hstep, hrstin⟩ := not_or.1 hgo
    rw [exec_releaseStep_of_release (of_not_not hstep) (by simpa using hrstin) rfl rfl] at hx
    refine .of_next ?_ hx
    exact Posts.refl.of_rpu_eq (fillQueue_rpu _)

/-! ### Every command -/

/-- R47: what a record command hands to the Set Manager. -/
theorem posts_handOff {f : State → State} (hf : Posts s (f s)) : Posts s (handOff f s) := by
  unfold handOff
  split
  next => exact hf
  next => exact .refl

theorem posts_of_unknownKind {kind : Byte} {r : Record} (hx : exec (.unknownKind kind r) s = .next t) :
    Posts s t := by
  refine .of_next ?_ hx
  split
  next => exact posts_handOff Posts.refl.posting
  next => exact .refl

theorem posts_or_emptied_of_clearRecord {r : Record} (hx : exec (.clearRecord r) s = .next t) :
    Posts s t ∨ Emptied t := by
  obtain rfl := Host.Outcome.next.inj hx
  unfold handOff
  split
  next => exact Posts.refl.or_emptied_takeClear r
  next => exact .inl .refl

/-- The commands that can empty the event list: POWER_ON, and those by which a CLEAR completes (R149). -/
def CanEmpty (i : Instr) : Prop := i = .powerOn ∨ (∃ r, i = .clearRecord r) ∨ ∃ b, i = .programDataByte b

theorem posts_or_emptied_of_exec (i : Instr) (hx : exec i s = .next t) : Posts s t ∨ Emptied t ∧ CanEmpty i := by
  cases i
  case powerOn => exact .inr ⟨emptied_of_powerOn hx, .inl rfl⟩
  case clearRecord r =>
    exact (posts_or_emptied_of_clearRecord hx).imp_right fun h => ⟨h, .inr (.inl ⟨r, rfl⟩)⟩
  case programDataByte b =>
    exact (posts_or_emptied_of_programDataByte hx).imp_right fun h => ⟨h, .inr (.inr ⟨b, rfl⟩)⟩
  all_goals left
  case read code a =>
    cases a
    case none => exact (posts_deciding Posts.refl.aside).of_next hx
    case some a => exact (posts_deciding (posts_decideRead code a s)).of_next hx
  case readGranuleCrossing => exact posts_of_readGranuleCrossing hx
  case reportReadLeavesWindow => exact posts_of_reportReadLeavesWindow hx
  case program code a =>
    cases a
    case none => exact (posts_deciding Posts.refl.aside).of_next hx
    case some a => exact (posts_deciding (posts_decideProgram code a s)).of_next hx
  case erase4k code a | erase64k code a =>
    cases a
    case none => exact (posts_deciding Posts.refl.aside).of_next hx
    case some a => exact (posts_deciding (posts_decideErase _ code a _ _ s)).of_next hx
  case statusRead | writeEnable | writeDisable | pass => exact (posts_deciding Posts.refl.aside).of_next hx
  case eraseAll | block => exact (posts_deciding Posts.refl.posting).of_next hx
  case unknownKind => exact posts_of_unknownKind hx
  case openRecord r => exact (posts_handOff (Posts.refl.after_takeOpen r)).of_next hx
  case componentRecord r => exact (posts_handOff (Posts.refl.after_takeComponent r)).of_next hx
  case codesRecord r => exact (posts_handOff (Posts.refl.after_takeCodes r)).of_next hx
  case closeRecord r => exact (posts_handOff (Posts.refl.after_takeClose r)).of_next hx
  case commitRecord r => exact (posts_handOff (Posts.refl.after_takeCommit r)).of_next hx
  case confirmRecord r => exact (posts_handOff (Posts.refl.after_takeConfirm r)).of_next hx
  case abandonRecord r => exact (posts_handOff (Posts.refl.after_takeAbandon r)).of_next hx
  case rescanRecord r => exact (posts_handOff (Posts.refl.after_takeRescan r)).of_next hx
  case ucsReleased => exact posts_of_ucsReleased hx
  case statusByte => exact posts_of_statusByte hx
  case busyLimitExpiry => exact posts_of_busyLimitExpiry hx
  case scanWord => exact posts_of_scanWord hx
  case scanComplete => exact posts_of_scanComplete hx
  case journalPollTimeout => exact posts_of_journalPollTimeout hx
  case commitEntryLands => exact (Posts.refl.after_landsBy _ Posts.refl.after_commitLands).of_next hx
  case attemptEntryLands => exact (Posts.refl.after_landsBy _ Posts.refl.after_attemptLands).of_next hx
  case confirmationEntryLands => exact (Posts.refl.after_landsBy _ Posts.refl.after_confirmationLands).of_next hx
  case revertEntryLands => exact (Posts.refl.after_landsBy _ Posts.refl.after_revertLands).of_next hx
  case commitEntryFails | attemptEntryFails | confirmationEntryFails | revertEntryFails =>
    exact (Posts.refl.after_failsByReply _ _).of_next hx
  case revertRetry => exact posts_of_revertRetry hx
  case mrstRelease => exact posts_of_mrstRelease hx
  case confirmTimerExpiry => exact posts_of_confirmTimerExpiry hx
  case rstinAsserted => exact posts_of_rstinAsserted hx
  case rstinReleased => exact posts_of_rstinReleased hx
  case presenceCheck => exact posts_of_presenceCheck hx
  case profileLoad => exact posts_of_profileLoad hx
  case journalRead => exact posts_of_journalRead hx
  case rebuildReadDone => exact posts_of_rebuildReadDone hx
  case rebuildComplete => exact posts_of_rebuildComplete hx
  case releaseStep => exact posts_of_releaseStep hx
  case ucsAsserted | writeDisableCleanup | cleanupComplete | statusPoll | scanStart | scanResume | presenceTimeout =>
    exact posts_of_silent (by simp) hx

end

end Sys2Proof.Machine
end

section
/-!
PROOF. What postings keep (spec 09): the ninth law, the keys of the entries in their places, and ALERT.
-/

namespace Sys2Proof.Machine

section

variable {s t : State}

/-! ### The ninth law (R147, R148) -/

theorem eventListLaw_iff : EventListLaw s ↔ (s.rpu.events.map Event.key).length ≤ 32 ∧
    (∀ e ∈ s.rpu.events, 1 ≤ e.count ∧ e.count ≤ 255) ∧ (s.rpu.events.map Event.key).IsChain (· ≠ ·) := by
  simp [EventListLaw, List.isChain_map, Event.key]

/-- R147: the newest entry absorbs a posting, and no key moves. -/
theorem EventListLaw.after_absorbed (h : EventListLaw s) {older : List Event} {newest : Event}
    (hlast : s.rpu.events = older ++ [newest]) (seq : Word16) :
    EventListLaw (s.setRpu (s.rpu.post newest.kind seq newest.detail)) := by
  obtain ⟨hlen, hcount, hchain⟩ := eventListLaw_iff.1 h
  rw [hlast] at hlen hcount hchain
  rw [Rpu.post_of_newest hlast rfl, eventListLaw_iff]
  have hkeys : (older ++ [{ newest with
      count := if newest.count < 255 then newest.count + 1 else 255, seq := seq }]).map Event.key =
      (older ++ [newest]).map Event.key := by simp [Event.key]
  refine ⟨hkeys ▸ hlen, fun e he => ?_, hkeys ▸ hchain⟩
  obtain he | he := List.mem_append.1 he
  · exact hcount e (List.mem_append_left _ he)
  · rw [List.mem_singleton.1 he]; dsimp only; split <;> omega

/-- R148: an entry is appended beside one of another key, or none. -/
theorem EventListLaw.after_appended (h : EventListLaw s) (hroom : s.rpu.events.length < 32) {e : Event}
    (hone : e.count = 1) (hfresh : ∀ older newest, s.rpu.events = older ++ [newest] → newest.key ≠ e.key) :
    EventListLaw (s.setRpu { s.rpu with events := s.rpu.events ++ [e] }) := by
  obtain ⟨-, hcount, hchain⟩ := eventListLaw_iff.1 h
  refine eventListLaw_iff.2 ⟨by simpa using hroom, fun d hd => ?_, ?_⟩
  · obtain hd | hd := List.mem_append.1 hd
    · exact hcount d hd
    · rw [List.mem_singleton.1 hd, hone]; decide
  · refine List.map_append ▸ hchain.append (.singleton _) fun x hx y hy => ?_
    obtain ⟨newest, hnewest, rfl⟩ := by simpa using hx
    obtain ⟨older, hlast⟩ := List.getLast?_eq_some_iff.1 hnewest
    obtain rfl := by simpa using hy
    exact hfresh older newest hlast

theorem EventListLaw.after_post (h : EventListLaw s) (kind : EventKind) (seq : Word16) (detail : Word32) :
    EventListLaw (s.setRpu (s.rpu.post kind seq detail)) := by
  by_cases habsorbed : ∃ older newest, s.rpu.events = older ++ [newest] ∧ newest.key = (kind, detail)
  · obtain ⟨older, newest, hlast, hkey⟩ := habsorbed
    obtain ⟨rfl, rfl⟩ := Prod.mk.inj hkey
    exact h.after_absorbed hlast seq
  · have hfresh : ∀ older newest, s.rpu.events = older ++ [newest] → newest.key ≠ (kind, detail) :=
      fun older newest hlast hkey => habsorbed ⟨older, newest, hlast, hkey⟩
    rw [Rpu.post_of_fresh hfresh]
    split
    next hroom => exact h.after_appended hroom rfl hfresh
    next => exact h

theorem EventListLaw.of_posts (h : EventListLaw s) (hp : Posts s t) : EventListLaw t := by
  have hkept (v : Rpu) (hv : s.rpu.Posts v) : EventListLaw (s.setRpu v) := by
    induction hv with
    | refl => exact h
    | post _ kind seq detail ih => exact ih.after_post kind seq detail
    | snapshot _ _ ih => exact ih
  exact hkept t.rpu hp

theorem Emptied.eventListLaw (h : Emptied t) : EventListLaw t := by simp [EventListLaw, h.1]

/-! ### Entries that stay (R147, R149, R154) -/

theorem Rpu.Posts.keys {u v : Rpu} (h : u.Posts v) : u.events.map Event.key <+: v.events.map Event.key := by
  induction h with
  | refl => exact List.prefix_rfl
  | post _ kind seq detail ih => exact ih.trans (Rpu.post_keys _ kind seq detail).1
  | snapshot _ _ ih => exact ih

/-- R154: an ATTENTION event is told by its key, so while its key stays ALERT does. -/
theorem alertAsserted_of_keys (h : s.rpu.events.map Event.key <+: t.rpu.events.map Event.key)
    (hs : alertAsserted s = true) (ht : t.sup.part ≠ .starting) : alertAsserted t = true := by
  obtain ⟨-, e, he, hattention⟩ := (alertAsserted_iff s).1 hs
  obtain ⟨e', he', hkey⟩ := List.mem_map.1 (h.subset (List.mem_map_of_mem he))
  exact (alertAsserted_iff t).2 ⟨ht, e', he', (Prod.mk.inj hkey).1 ▸ hattention⟩

theorem Emptied.alertAsserted (h : Emptied t) : alertAsserted t = false := by simp [Machine.alertAsserted, h.1]

end

/-- Settles O56: postings keep the law (`EventListLaw.of_posts`), and an emptied list meets it. -/
theorem eventListLawKept : Obligations.EventListLawKept := by
  intro s t h hx
  unfold step at hx
  split at hx
  next i rest _ =>
    obtain hp | ⟨he, -⟩ := posts_or_emptied_of_exec i hx
    · exact EventListLaw.of_posts (s := s.setPending rest) h hp
    · exact he.eventListLaw
  next => exact h.of_posts (Posts.refl.aside.of_next hx)

/-- Settles O40: a command posts, which keeps the keys, or empties the list. -/
theorem entriesStayUntilCleared : Obligations.EntriesStayUntilCleared := by
  intro s t i hx
  obtain hp | ⟨he, hi⟩ := posts_or_emptied_of_exec i hx
  · exact .inl ⟨hp.keys, alertAsserted_of_keys hp.keys⟩
  · exact .inr ⟨he.1, he.2, he.alertAsserted, hi⟩

end Sys2Proof.Machine
end
